-- ==== Sys2Proof/Word.lean ====
section
/-! DEFINITION. The unit of every RXCMD storage (a byte) and the four-character token. -/

namespace Sys2Proof

/-- "A byte is an 8-bit unsigned value" (R9). -/
abbrev Byte := BitVec 8

/-- Four characters, `tok[0..3]` of R31 and one entry `ROM[i][0..3]` of R29; `t0` is the first one received. -/
structure Token where
  t0 : Byte
  t1 : Byte
  t2 : Byte
  t3 : Byte
deriving DecidableEq, Repr

end Sys2Proof
end

