-- ==== Sys2Proof/Syntax.lean ====
section
/-! DEFINITION. The operations of RXCMD, one constructor per row of spec/opcode_table.json, the formats their
encodings have, and the stimuli that a trace is made of. -/

namespace Sys2Proof

/-- One constructor per row of the opcode table. An operand is a field of the row's encoding, or those bits of it that
the row leaves open. -/
inductive Instr where
  /-- RX_TERM (R121). -/
  | rxTerm
  /-- RX_DATA (R122): any byte but the terminator. -/
  | rxData (b : Byte)
  /-- NOP (R77). -/
  | nop
  /-- POLL_NOFRAME (R130): POLL with `frame_ready == 0`. -/
  | pollNoframe
  /-- POLL_FRAME (R131): POLL with `frame_ready == 1`. -/
  | pollFrame
  /-- READ_WAIT (R104). -/
  | readWait
  /-- COUNT (R105). -/
  | count
  /-- HOP_RESERVED (R77): the codes 0b100..0b111; `low` is the two bits the row leaves open. -/
  | hopReserved (low : BitVec 2)
  /-- PUSH (R101); `b` is `wr_data`. -/
  | push (b : Byte)
  /-- POP (R102). -/
  | pop
  /-- RB_COUNT (R100). -/
  | rbCount
  /-- FETCH0 (R133, k = 0). -/
  | fetch0
  /-- FETCH1 (R133, k = 1). -/
  | fetch1
  /-- FETCH2 (R133, k = 2). -/
  | fetch2
  /-- FETCH3 (R133, k = 3). -/
  | fetch3
  /-- DRAIN (R134). -/
  | drain
  /-- CLASSIFY (R135). -/
  | classify
  /-- CLEAR (R136). -/
  | clear
  /-- ACK (R137). -/
  | ack
  /-- IDLE (R132): the CONSUMER has no step. -/
  | idle
  /-- PHASE_UNUSED (R76): `p` is one of the values 9..15. -/
  | phaseUnused (p : BitVec 4)
  /-- CMD_STOP (R162). -/
  | cmdStop
  /-- CMD_WF (R163). -/
  | cmdWf
  /-- CMD_WB (R164). -/
  | cmdWb
  /-- CMD_WLT (R165). -/
  | cmdWlt
  /-- CMD_WRT (R166). -/
  | cmdWrt
  /-- CMD_WLS (R167). -/
  | cmdWls
  /-- CMD_WRS (R168). -/
  | cmdWrs
  /-- CMD_WFLS (R169). -/
  | cmdWfls
  /-- CMD_WFRS (R170). -/
  | cmdWfrs
  /-- CMD_WBLS (R171). -/
  | cmdWbls
  /-- CMD_WBRS (R172). -/
  | cmdWbrs
  /-- CMD_WAL (R173). -/
  | cmdWal
  /-- CMD_WAR (R174). -/
  | cmdWar
  /-- CMD_WFLT (R175). -/
  | cmdWflt
  /-- CMD_WFRT (R176). -/
  | cmdWfrt
  /-- CMD_WBLT (R177). -/
  | cmdWblt
  /-- CMD_WBRT (R178). -/
  | cmdWbrt
  /-- CMD_SIT (R179). -/
  | cmdSit
  /-- CMD_BAL (R180). -/
  | cmdBal
  /-- M_RESERVED (R181): ROM entry 19, never compared by the scan. -/
  | mReserved
  /-- MOTION_PAGE (R182): `M`, the digit `b`, then any two bytes. -/
  | motionPage (b c d : Byte)
  /-- NOT_FOUND (R184): every other token. -/
  | notFound (a b c d : Byte)
  /-- RESET (R230). -/
  | reset
  /-- ST_READ (R39): a status read at offset `addr`, 16 bits wide when `wide`, else 8. -/
  | stRead (wide : Bool) (addr : BitVec 4)
deriving DecidableEq, Repr

/-- The formats of 30_encoding.md and the opcode table. -/
inductive Format where
  | rxb8 | hop3 | rbp | seq4 | tok32 | rst | strd
deriving DecidableEq, Repr

/-- The bits that one port carries for one operation, each at its format's width. -/
inductive PortWord where
  /-- RXB8 (R71): `rx_data`. -/
  | rxb8 (b : Byte)
  /-- HOP3 (R77): `host_op`. -/
  | hop3 (op : BitVec 3)
  /-- RBP (R78): `en` is `{wr_en, rd_en}`, with `wr_data` beside it. -/
  | rbp (en : BitVec 2) (wrData : Byte)
  /-- SEQ4 (R76): `phase`. -/
  | seq4 (phase : BitVec 4)
  /-- TOK32 (R74): the token word. -/
  | tok32 (t : BitVec 32)
  /-- RST: the line `rst`. -/
  | rst (line : BitVec 1)
  /-- STRD (R39): the read's width and `st_addr`. -/
  | strd (wide : Bool) (addr : BitVec 4)
deriving DecidableEq, Repr

/-- What the environment does next, one item of a trace (R55, R86). A run of RXCMD is a sequence of these. -/
inductive Stimulus where
  /-- `rx`: one RX event (R120). -/
  | rx (b : Byte)
  /-- `poll`, `readw`, `count` and the other codes: a HOST request with `host_op` (R77). -/
  | host (op : BitVec 3)
  /-- `step`: the poll context takes its next step (R55, R207). -/
  | turn
  /-- `reset`: RESET, with the bytes that arrive on the line while it is asserted, oldest first (R230, R233). -/
  | rst (arriving : List Byte)
  /-- `read`: a READER status read (R39). -/
  | stRead (wide : Bool) (addr : BitVec 4)
  /-- A write to the status view, which is ignored (R37). -/
  | stWrite (addr : BitVec 4) (data : BitVec 16)
deriving DecidableEq, Repr

end Sys2Proof
end

