-- ==== Sys2Proof/Config.lean ====
section
/-! DEFINITION. The implementation parameters of R6 that the spec leaves open, the fixed ones, and the free values. -/

namespace Sys2Proof

/-- The parameters an implementation fixes (R6): `n` is the ring storage size N, which the spec leaves OPEN (D1),
`notFoundOrd` the parameter NOT_FOUND_ORD (D6). -/
structure Config where
  n : Nat
  notFoundOrd : Byte
deriving DecidableEq, Repr

/-- What R6 asks of the parameters: `2 <= N <= 65536`, and NOT_FOUND_ORD outside 0..19. -/
abbrev Config.wf (c : Config) : Prop :=
  2 ≤ c.n ∧ c.n ≤ 65536 ∧ 20 ≤ c.notFoundOrd.toNat

/-- The parameters of the spec's own test vectors: N = 8 and NOT_FOUND_ORD = 20.
DESIGN CHOICE (log entry 1): N is open in the spec; only `State.reset` uses this pair. -/
def Config.vectors : Config := { n := 8, notFoundOrd := 20#8 }

/-- `W`, the width in bits of `head` and `tail`: `max(1, ceil(log2 N))` (R6, D2). -/
def Config.indexWidth (c : Config) : Nat := max 1 (Nat.clog 2 c.n)

/-- `SCAN_LAST`, the last ordinal the table scan compares (R6, D8, 90_conflicts.md C1). -/
def scanLast : Nat := 18

/-- `MP_ORD`, the reserved motion-page ordinal (R6, D7). -/
def mpOrd : Byte := 19#8

/-- `ACKMAX`, the longest acknowledgment in bytes, which is the size of `ack_buf` (R6, R33). -/
def ackMax : Nat := 31

/-- FREE VALUE (R233, log entry 4): whether the `d`-th byte that arrived while RESET was asserted is held by the
environment and delivered afterwards (true) or lost in the peripheral (false). "A model takes either, as a draw." -/
opaque Config.keepsResetByte : Nat → Bool

/-- FREE VALUE (R204, R250, log entry 22): what reaches the core from outside it before the poll context's turn number `r`
of an endless run. Each is a finite list, so the poll context is never starved; all of them together hold as many RX bytes
as the environment pleases, without end or not. -/
opaque Config.arrivals : Nat → List Stimulus

/-- FREE VALUE (R250, log entry 22): the requests the HOST makes between a POLL and its next one, drawn with the turn
number `r` at which the POLL falls due. Each is a finite list, so the HOST polls infinitely often. -/
opaque Config.requests : Nat → List (BitVec 3)

end Sys2Proof
end

