-- ==== Sys2Proof/Machine/Codes.lean ====
section
/-! DEFINITION. Character codes, character predicates, decimal text, the phase and kind codes, and the packing of a
token into its word. -/

namespace Sys2Proof.Machine

/-- `SENT`, the sentinel byte (R6): "all-bits-set, 0xFF". -/
def sent : Byte := 0xFF#8

/-- `TERM`, the frame terminator, the carriage return (R6, R70). -/
def term : Byte := 0x0D#8

/-- The line feed (R70). -/
def lineFeed : Byte := 0x0A#8

/-- The space, which pads a token (R70, R133). -/
def space : Byte := 0x20#8

/-- The letter `M` (R70). -/
def letterM : Byte := 0x4D#8

/-- `fold(b)` (R72): only 0x61..0x7A change, by -0x20. -/
def fold (b : Byte) : Byte :=
  if 0x61 ≤ b.toNat ∧ b.toNat ≤ 0x7A then b - 0x20#8 else b

/-- `isdigit(b)` (R73). -/
def isDigit (b : Byte) : Bool := decide (0x30 ≤ b.toNat ∧ b.toNat ≤ 0x39)

/-- The motion-page form of a token: `tok[0] == 0x4D` and `isdigit(tok[1])` (R84, R182). -/
def isPageForm (t0 t1 : Byte) : Bool := t0 == letterM && isDigit t1

/-- `val(b) = b - 0x30` (R73); meant for digits only. -/
def digitVal (b : Byte) : Nat := b.toNat - 0x30

/-- The character of a decimal digit 0..9 (R70). -/
def digitChar (d : Nat) : Byte := BitVec.ofNat 8 (0x30 + d)

/-- `dec(v)` for `v` in 0..999 (R80): the shortest decimal text, no sign, no leading zeros, no padding. -/
def dec (v : Nat) : List Byte :=
  if v < 10 then [digitChar v]
  else if v < 100 then [digitChar (v / 10), digitChar (v % 10)]
  else [digitChar (v / 100), digitChar (v / 10 % 10), digitChar (v % 10)]

/-- `" - Command # "` (R79). -/
def textCommand : List Byte :=
  [0x20#8, 0x2D#8, 0x20#8, 0x43#8, 0x6F#8, 0x6D#8, 0x6D#8, 0x61#8, 0x6E#8, 0x64#8, 0x20#8, 0x23#8, 0x20#8]

/-- `" - MotionPageCommand "` (R79). -/
def textMotionPage : List Byte :=
  [0x20#8, 0x2D#8, 0x20#8, 0x4D#8, 0x6F#8, 0x74#8, 0x69#8, 0x6F#8, 0x6E#8, 0x50#8, 0x61#8, 0x67#8, 0x65#8,
   0x43#8, 0x6F#8, 0x6D#8, 0x6D#8, 0x61#8, 0x6E#8, 0x64#8, 0x20#8]

/-- `" \nUnknown Command! \n"` (R79). -/
def textUnknown : List Byte :=
  [0x20#8, 0x0A#8, 0x55#8, 0x6E#8, 0x6B#8, 0x6E#8, 0x6F#8, 0x77#8, 0x6E#8, 0x20#8, 0x43#8, 0x6F#8, 0x6D#8,
   0x6D#8, 0x61#8, 0x6E#8, 0x64#8, 0x21#8, 0x20#8, 0x0A#8]

/-- `"> "` (R79). -/
def textPrompt : List Byte := [0x3E#8, 0x20#8]

/-- `phase` values (R76). -/
abbrev Phase.idle : BitVec 4 := 0#4
/-- FETCH0 (R76). -/
abbrev Phase.fetch0 : BitVec 4 := 1#4
/-- FETCH1 (R76). -/
abbrev Phase.fetch1 : BitVec 4 := 2#4
/-- FETCH2 (R76). -/
abbrev Phase.fetch2 : BitVec 4 := 3#4
/-- FETCH3 (R76). -/
abbrev Phase.fetch3 : BitVec 4 := 4#4
/-- DRAIN (R76). -/
abbrev Phase.drain : BitVec 4 := 5#4
/-- CLASSIFY (R76). -/
abbrev Phase.classify : BitVec 4 := 6#4
/-- CLEAR (R76). -/
abbrev Phase.clear : BitVec 4 := 7#4
/-- ACK (R76). -/
abbrev Phase.ack : BitVec 4 := 8#4

/-- The successor of FETCHk when a character was stored (R133): `(k == 3) ? DRAIN : FETCH(k+1)`, FETCHk being `1 + k`. -/
def Phase.afterFetch (k : Nat) : BitVec 4 :=
  if k = 3 then Phase.drain else BitVec.ofNat 4 (k + 2)

/-- `kind` values (R32). -/
abbrev Kind.isMatch : BitVec 2 := 0#2
/-- MOTION_PAGE (R32). -/
abbrev Kind.page : BitVec 2 := 1#2
/-- NOT_FOUND (R32). -/
abbrev Kind.unknown : BitVec 2 := 2#2
/-- The unused value (R32); no step writes it. -/
abbrev Kind.unused : BitVec 2 := 3#2

end Sys2Proof.Machine

namespace Sys2Proof

/-- The four characters in order. -/
def Token.chars (t : Token) : List Byte := [t.t0, t.t1, t.t2, t.t3]

/-- `tok[k] <- c` (R133). -/
def Token.put (t : Token) (k : Nat) (c : Byte) : Token :=
  match k with
  | 0 => { t with t0 := c }
  | 1 => { t with t1 := c }
  | 2 => { t with t2 := c }
  | 3 => { t with t3 := c }
  | _ => t

/-- `for j in k..3: tok[j] <- 0x20` (R133). -/
def Token.padFrom (t : Token) (k : Nat) : Token :=
  { t0 := if k = 0 then Machine.space else t.t0
    t1 := if k ≤ 1 then Machine.space else t.t1
    t2 := if k ≤ 2 then Machine.space else t.t2
    t3 := if k ≤ 3 then Machine.space else t.t3 }

/-- The token word `{tok[0], tok[1], tok[2], tok[3]}`: `tok[0]` is bits [31:24] (R51, R74). -/
def Token.toWord (t : Token) : BitVec 32 := t.t0 ++ t.t1 ++ t.t2 ++ t.t3

/-- The token whose word is `w` (R74). -/
def Token.ofWord (w : BitVec 32) : Token :=
  { t0 := w.extractLsb' 24 8
    t1 := w.extractLsb' 16 8
    t2 := w.extractLsb' 8 8
    t3 := w.extractLsb' 0 8 }

end Sys2Proof
end

