-- ==== Sys2Proof/Decode.lean ====
section
/-! DEFINITION. From the bits on a port to an operation, and back. The decoder is total and rejects by name; the encoder
is written from the same encoding rules (30_encoding.md). -/

namespace Sys2Proof

/-- Why bits are no operation. -/
inductive DecodeError where
  /-- The bytes are not as many as the format's word has. -/
  | wrongLength
  /-- A bit above the format's width is 1. -/
  | strayBits
  /-- `wr_en` and `rd_en` together: "PUSH and POP are never asserted in one step" (R78). -/
  | bothEnables
  /-- `rst` is 0: no RESET is asserted (R86). -/
  | resetNotAsserted
deriving DecidableEq, Repr

/-! ### Token words -/

/-- Rows CMD_STOP to CMD_WBLS of the opcode table: match value (mask 0xFFFFFFFF) and operation. -/
def tokRowsLow : List (BitVec 32 × Instr) :=
  [(0x53544F50#32, .cmdStop),
   (0x57462020#32, .cmdWf),
   (0x57422020#32, .cmdWb),
   (0x574C5420#32, .cmdWlt),
   (0x57525420#32, .cmdWrt),
   (0x574C5320#32, .cmdWls),
   (0x57525320#32, .cmdWrs),
   (0x57464C53#32, .cmdWfls),
   (0x57465253#32, .cmdWfrs),
   (0x57424C53#32, .cmdWbls)]

/-- Rows CMD_WBRS to CMD_BAL, and M_RESERVED. -/
def tokRowsHigh : List (BitVec 32 × Instr) :=
  [(0x57425253#32, .cmdWbrs),
   (0x57414C20#32, .cmdWal),
   (0x57415220#32, .cmdWar),
   (0x57464C54#32, .cmdWflt),
   (0x57465254#32, .cmdWfrt),
   (0x57424C54#32, .cmdWblt),
   (0x57425254#32, .cmdWbrt),
   (0x53495420#32, .cmdSit),
   (0x42414C20#32, .cmdBal),
   (0x4D202020#32, .mReserved)]

/-- The rows of format TOK32 whose mask is all ones. -/
def tokRows : List (BitVec 32 × Instr) := tokRowsLow ++ tokRowsHigh

/-- The operation of the row whose match value is `w`, if there is one. -/
def lookupTok (w : BitVec 32) : List (BitVec 32 × Instr) → Option Instr
  | [] => none
  | r :: rs => if r.1 = w then some r.2 else lookupTok w rs

/-- R84: every token word belongs to exactly one class, found in the order table, motion page, not found. DEDUCED (log entry
24): R83 says of words with 0x61..0x7A or 0xFF in them that they "can only be NOT_FOUND", but by R84 and R182 the form M,
digit, any two bytes is MOTION_PAGE, 0x4D35FFFF too; the model follows R84. No CONSUMER produces such a word. -/
def decodeTok (w : BitVec 32) : Instr :=
  match lookupTok w tokRows with
  | some i => i
  | none =>
    let t := Token.ofWord w
    if Machine.isPageForm t.t0 t.t1 then .motionPage t.t1 t.t2 t.t3 else .notFound t.t0 t.t1 t.t2 t.t3

/-! ### The other formats -/

/-- RXB8 (R71): the terminator, and everything else. -/
def decodeRx (b : Byte) : Instr := if b = 0x0D#8 then .rxTerm else .rxData b

/-- HOP3 (R77). POLL is two rows of the table, told apart by `frame_ready` (R130, R131). -/
def decodeHop (frameReady : Bool) (op : BitVec 3) : Instr :=
  if op = 0b000#3 then .nop
  else if op = 0b001#3 then (if frameReady then .pollFrame else .pollNoframe)
  else if op = 0b010#3 then .readWait
  else if op = 0b011#3 then .count
  else .hopReserved (op.extractLsb' 0 2)

/-- RBP (R78), over `{wr_en, rd_en}`. -/
def decodeRbp (en : BitVec 2) (wrData : Byte) : Except DecodeError Instr :=
  if en = 0b10#2 then .ok (.push wrData)
  else if en = 0b01#2 then .ok .pop
  else if en = 0b00#2 then .ok .rbCount
  else .error .bothEnables

/-- SEQ4 (R76): the micro-step that `phase` names. -/
def decodeSeq (p : BitVec 4) : Instr :=
  if p = 0#4 then .idle
  else if p = 1#4 then .fetch0
  else if p = 2#4 then .fetch1
  else if p = 3#4 then .fetch2
  else if p = 4#4 then .fetch3
  else if p = 5#4 then .drain
  else if p = 6#4 then .classify
  else if p = 7#4 then .clear
  else if p = 8#4 then .ack
  else .phaseUnused p

/-- The decoder. `frameReady` is the flag that tells the two POLL rows apart; no other format looks at it. -/
def decode (frameReady : Bool) : PortWord → Except DecodeError Instr
  | .rxb8 b => .ok (decodeRx b)
  | .hop3 op => .ok (decodeHop frameReady op)
  | .rbp en d => decodeRbp en d
  | .seq4 p => .ok (decodeSeq p)
  | .tok32 t => .ok (decodeTok t)
  | .rst line => if line = 1#1 then .ok .reset else .error .resetNotAsserted
  | .strd wide addr => .ok (.stRead wide addr)

/-! ### Bytes -/

/-- A byte as a field of `width` bits, its other bits being 0. -/
def fieldOf (width : Nat) (b : Byte) : Except DecodeError (BitVec width) :=
  if b.toNat < 2 ^ width then .ok (BitVec.ofNat width b.toNat) else .error .strayBits

/-- Bytes as a port's word, total on any bytes. A field narrower than a byte stands in the byte's low bits. A token is
its four characters in order (R74); RBP is the enables, then `wr_data` (DESIGN CHOICE, log entry 7); STRD is the offset
in bits [3:0] and the width in bit 4 (DESIGN CHOICE, log entry 7). -/
def PortWord.ofBytes (f : Format) (bytes : List Byte) : Except DecodeError PortWord :=
  match f, bytes with
  | .rxb8, [b] => .ok (.rxb8 b)
  | .hop3, [b] => (fieldOf 3 b).map .hop3
  | .rbp, [e, d] => (fieldOf 2 e).map (fun en => .rbp en d)
  | .seq4, [b] => (fieldOf 4 b).map .seq4
  | .tok32, [a, b, c, d] => .ok (.tok32 (a ++ b ++ c ++ d))
  | .rst, [b] => (fieldOf 1 b).map .rst
  | .strd, [b] => (fieldOf 5 b).map (fun v => .strd (v.getLsbD 4) (v.extractLsb' 0 4))
  | _, _ => .error .wrongLength

/-- The decoder on bytes. -/
def decodeBytes (f : Format) (frameReady : Bool) (bytes : List Byte) : Except DecodeError Instr :=
  match PortWord.ofBytes f bytes with
  | .ok w => decode frameReady w
  | .error e => .error e

/-! ### The encoder -/

/-- The word that the encoding rules give an operation. -/
def encode : Instr → PortWord
  | .rxTerm => .rxb8 0x0D#8
  | .rxData b => .rxb8 b
  | .nop => .hop3 0b000#3
  | .pollNoframe => .hop3 0b001#3
  | .pollFrame => .hop3 0b001#3
  | .readWait => .hop3 0b010#3
  | .count => .hop3 0b011#3
  | .hopReserved low => .hop3 (1#1 ++ low)
  | .push b => .rbp 0b10#2 b
  | .pop => .rbp 0b01#2 0#8
  | .rbCount => .rbp 0b00#2 0#8
  | .fetch0 => .seq4 0x1#4
  | .fetch1 => .seq4 0x2#4
  | .fetch2 => .seq4 0x3#4
  | .fetch3 => .seq4 0x4#4
  | .drain => .seq4 0x5#4
  | .classify => .seq4 0x6#4
  | .clear => .seq4 0x7#4
  | .ack => .seq4 0x8#4
  | .idle => .seq4 0x0#4
  | .phaseUnused p => .seq4 p
  | .cmdStop => .tok32 0x53544F50#32
  | .cmdWf => .tok32 0x57462020#32
  | .cmdWb => .tok32 0x57422020#32
  | .cmdWlt => .tok32 0x574C5420#32
  | .cmdWrt => .tok32 0x57525420#32
  | .cmdWls => .tok32 0x574C5320#32
  | .cmdWrs => .tok32 0x57525320#32
  | .cmdWfls => .tok32 0x57464C53#32
  | .cmdWfrs => .tok32 0x57465253#32
  | .cmdWbls => .tok32 0x57424C53#32
  | .cmdWbrs => .tok32 0x57425253#32
  | .cmdWal => .tok32 0x57414C20#32
  | .cmdWar => .tok32 0x57415220#32
  | .cmdWflt => .tok32 0x57464C54#32
  | .cmdWfrt => .tok32 0x57465254#32
  | .cmdWblt => .tok32 0x57424C54#32
  | .cmdWbrt => .tok32 0x57425254#32
  | .cmdSit => .tok32 0x53495420#32
  | .cmdBal => .tok32 0x42414C20#32
  | .mReserved => .tok32 0x4D202020#32
  | .motionPage b c d => .tok32 (0x4D#8 ++ b ++ c ++ d)
  | .notFound a b c d => .tok32 (a ++ b ++ c ++ d)
  | .reset => .rst 1#1
  | .stRead wide addr => .strd wide addr

/-- The format a word has. -/
def PortWord.format : PortWord → Format
  | .rxb8 _ => .rxb8
  | .hop3 _ => .hop3
  | .rbp _ _ => .rbp
  | .seq4 _ => .seq4
  | .tok32 _ => .tok32
  | .rst _ => .rst
  | .strd _ _ => .strd

/-- A word laid out in bytes, as `PortWord.ofBytes` reads them. -/
def PortWord.toBytes : PortWord → List Byte
  | .rxb8 b => [b]
  | .hop3 op => [op.zeroExtend 8]
  | .rbp en d => [en.zeroExtend 8, d]
  | .seq4 p => [p.zeroExtend 8]
  | .tok32 t => (Token.ofWord t).chars
  | .rst line => [line.zeroExtend 8]
  | .strd wide addr => [(BitVec.ofBool wide ++ addr).zeroExtend 8]

/-! ### The opcode table's numbering -/

/-- Which port word a table word of `nbits` bits is. The table's formats share one container of 8 bits, so a word alone
does not say which port it stands on. The row with the widest mask that the word matches is taken (DESIGN CHOICE, log
entry 8): RX_TERM (mask 0xFF), then the SEQ4 rows (mask 0xF), then RX_DATA (mask 0). A count of exactly 2, 3 or 4 bits
names RBP, HOP3 or SEQ4, and 0 or 1 bits name RST, the row to which the table gives no bits. -/
def tableWord (nbits w : Nat) : Option PortWord :=
  if nbits = 0 then some (.rst 1#1)
  else if 2 ^ nbits ≤ w then none
  else if nbits = 1 then some (.rst (BitVec.ofNat 1 w))
  else if nbits = 2 then some (.rbp (BitVec.ofNat 2 w) 0#8)
  else if nbits = 3 then some (.hop3 (BitVec.ofNat 3 w))
  else if nbits = 4 then some (.seq4 (BitVec.ofNat 4 w))
  else if nbits ≤ 8 then
    (if w = 0x0D then some (.rxb8 0x0D#8)
     else if w < 16 then some (.seq4 (BitVec.ofNat 4 w))
     else some (.rxb8 (BitVec.ofNat 8 w)))
  else if nbits ≤ 32 then some (.tok32 (BitVec.ofNat 32 w))
  else none

/-- The operation the decoder reads from a word numbered as the opcode table numbers it. `frame_ready` is taken as it is
after RESET. -/
def decodeTableWord (nbits w : Nat) : Option Instr :=
  match tableWord nbits w with
  | some p =>
    match decode false p with
    | .ok i => some i
    | .error _ => none
  | none => none

end Sys2Proof
end

