-- ==== Sys2Proof/Machine/Rom.lean ====
section
/-! DEFINITION. The contents of the Command ROM. -/

namespace Sys2Proof.Machine

/-- Entries 0..9 of the Command ROM (R162 to R171). -/
def romLow : List Token :=
  [⟨0x53#8, 0x54#8, 0x4F#8, 0x50#8⟩,   -- 0 STOP
   ⟨0x57#8, 0x46#8, 0x20#8, 0x20#8⟩,   -- 1 WF
   ⟨0x57#8, 0x42#8, 0x20#8, 0x20#8⟩,   -- 2 WB
   ⟨0x57#8, 0x4C#8, 0x54#8, 0x20#8⟩,   -- 3 WLT
   ⟨0x57#8, 0x52#8, 0x54#8, 0x20#8⟩,   -- 4 WRT
   ⟨0x57#8, 0x4C#8, 0x53#8, 0x20#8⟩,   -- 5 WLS
   ⟨0x57#8, 0x52#8, 0x53#8, 0x20#8⟩,   -- 6 WRS
   ⟨0x57#8, 0x46#8, 0x4C#8, 0x53#8⟩,   -- 7 WFLS
   ⟨0x57#8, 0x46#8, 0x52#8, 0x53#8⟩,   -- 8 WFRS
   ⟨0x57#8, 0x42#8, 0x4C#8, 0x53#8⟩]   -- 9 WBLS

/-- Entries 10..19 of the Command ROM (R172 to R181). -/
def romHigh : List Token :=
  [⟨0x57#8, 0x42#8, 0x52#8, 0x53#8⟩,   -- 10 WBRS
   ⟨0x57#8, 0x41#8, 0x4C#8, 0x20#8⟩,   -- 11 WAL
   ⟨0x57#8, 0x41#8, 0x52#8, 0x20#8⟩,   -- 12 WAR
   ⟨0x57#8, 0x46#8, 0x4C#8, 0x54#8⟩,   -- 13 WFLT
   ⟨0x57#8, 0x46#8, 0x52#8, 0x54#8⟩,   -- 14 WFRT
   ⟨0x57#8, 0x42#8, 0x4C#8, 0x54#8⟩,   -- 15 WBLT
   ⟨0x57#8, 0x42#8, 0x52#8, 0x54#8⟩,   -- 16 WBRT
   ⟨0x53#8, 0x49#8, 0x54#8, 0x20#8⟩,   -- 17 SIT
   ⟨0x42#8, 0x41#8, 0x4C#8, 0x20#8⟩,   -- 18 BAL
   ⟨0x4D#8, 0x20#8, 0x20#8, 0x20#8⟩]   -- 19 M

/-- What ROM holds before RESET ends and ever after (R29, R75, R232): the 20 entries in vocabulary order. -/
def commandRom : List Token := romLow ++ romHigh

end Sys2Proof.Machine
end

