-- ==== Sys2Proof/Machine/State.lean ====
section
/-! DEFINITION. Everything the spec gives the machine, the environment's part of a run (the TX stream, the trace still
to come), the values last put on the output ports, and the ghost history R40 allows. -/

namespace Sys2Proof.Machine

/-- Why the machine stops. Under the invariant of Safety.lean none of these happens. -/
inductive Fault where
  /-- Raised by POP (R102) when the slot at `head` was never written by a PUSH. Safe: the hardware would give an
  unspecified byte, and no run reaches this (R28). -/
  | ringUnwritten
  /-- Raised by PUSH and POP when the index is outside RBSPACE, 0..N-1 (R50). Safe: no run reaches this (R106). -/
  | ringOutside
  /-- Raised by the CONSUMER when `phase` is 9..15 (R76: "a model that finds one faults"). Safe: no step leads there. -/
  | unusedPhase
  /-- Raised by ACK when `kind` is 3 (93_implementation_defined.md row 8). Safe: no step writes it. -/
  | unusedKind
  /-- Raised by ACK when `ack_i` is 31, outside `ack_buf[0..30]` (R33). Safe: no run reaches this. -/
  | ackOutside
deriving DecidableEq, Repr

/-- Why an operation has no step in a state. -/
inductive Refusal where
  /-- Raised by `exec` for an operation that has no meaning yet. Safe. -/
  | notModelled (mnemonic : String)
  /-- Raised by an operation whose row's condition on `phase`, `frame_ready` or the token does not hold, or whose
  operand breaks the row's condition. Safe: the machine never takes such a step. -/
  | notEnabled
  /-- Raised by a HOST request while `phase != IDLE` (R131; 93_implementation_defined.md row 11: refuse). Safe. -/
  | hostBusy
  /-- Raised by a HOST request other than READ_WAIT while a READ_WAIT holds the poll context (R104). Safe. -/
  | hostHolding
  /-- Raised by a 16-bit status read at an odd offset (R52: "a model refuses it"). Safe. -/
  | misalignedStatusRead
  /-- Raised by `step` for port bits that are no operation. Safe: no stimulus carries such bits. -/
  | undecodable (why : DecodeError)
deriving DecidableEq, Repr

/-- The data of a status read: 8 or 16 bits (R39). -/
inductive StatusData where
  | byte (v : BitVec 8)
  | half (v : BitVec 16)
deriving DecidableEq, Repr

/-- The results last put on the output ports; `none` until the first one. They are outputs of steps, not architectural
state (R34), and no step reads them (log entry 6). -/
structure PortOut where
  /-- `host_rdata[7:0]`, the result of READ_WAIT (R77). -/
  hostRdata : Option Byte
  /-- `host_count[15:0]`, the result of COUNT (R77). -/
  hostCount : Option (BitVec 16)
  /-- The data of a status read (R39). -/
  stData : Option StatusData
  /-- `wr_ok`, the result of PUSH (R34, R101). -/
  wrOk : Option Bool
  /-- `rd_data[7:0]`, a result of POP (R102). -/
  rdData : Option Byte
  /-- `rd_empty`, the other result of POP (R34, R102). -/
  rdEmpty : Option Bool
  /-- `count[W:0]`, the combinational output of RB_COUNT (R78, R100). -/
  ringCount : Option Nat
deriving DecidableEq, Repr

/-- The silent degradations of R201. -/
inductive GhostEvent where
  /-- EV_DROP_DATA. -/
  | dropData
  /-- EV_DROP_SENT. -/
  | dropSent
  /-- EV_NOT_FOUND. -/
  | notFound
  /-- EV_MP_MALFORMED. -/
  | mpMalformed
  /-- EV_EMPTY_POP. -/
  | emptyPop
  /-- EV_LOST_READY. -/
  | lostReady
deriving DecidableEq, Repr

/-- The ghost history that a model may keep (R40, R201). It is not hardware state, and no step reads it except to write
it (log entry 11). -/
structure Ghost where
  /-- The degradations so far, oldest first. -/
  events : List GhostEvent
  /-- A terminator has set `frame_ready` since the POLL that started the dispatch cycle. -/
  termSincePoll : Bool
  /-- PUSHes accepted since RESET (R108). -/
  accepted : Nat
  /-- POPs with `rd_empty = 0` since RESET (R108). -/
  popped : Nat
deriving DecidableEq, Repr

/-- What the environment goes on doing when the trace is at its end (R250, log entry 22). -/
structure Environment where
  /-- The run is endless: rounds of free stimuli follow, each with a turn of the poll context. When false, the poll context
  has every turn from there on. -/
  endless : Bool
  /-- The HOST polls, again and again. When false it makes no request: "Without it no frame is ever classified, and the
  model keeps that behaviour." -/
  polls : Bool
  /-- How many rounds have been drawn. -/
  rounds : Nat
  /-- The requests the HOST makes before its next POLL. -/
  ahead : List (BitVec 3)
deriving DecidableEq, Repr

/-- The machine. -/
structure State where
  /-- The implementation's parameters (R6). No step writes them. -/
  cfg : Config
  /-- `cur_cmd`, 8 bits (R21). -/
  curCmd : BitVec 8
  /-- `prev_cmd`, 8 bits (R22). -/
  prevCmd : BitVec 8
  /-- `cur_mp`, 10 bits (R23). -/
  curMp : BitVec 10
  /-- `prev_mp`, 10 bits (R24). -/
  prevMp : BitVec 10
  /-- `frame_ready`, 1 bit (R25). -/
  frameReady : Bool
  /-- `head`, a natural in 0..N-1 (R26, R106). -/
  head : Nat
  /-- `tail`, a natural in 0..N-1 (R27, R106). -/
  tail : Nat
  /-- `RB`, the ring storage: the slots written so far, by index (R28). An unlisted slot was never written. -/
  rb : List Host.Cell
  /-- `ROM`, the Command ROM (R29). No step writes it. -/
  rom : List Token
  /-- `phase`, 4 bits (R30). -/
  phase : BitVec 4
  /-- `tok[0..3]`, 4 bytes (R31). -/
  tok : Token
  /-- `kind`, 2 bits (R32). -/
  kind : BitVec 2
  /-- `ack_buf[0..30]`, 31 bytes (R33). -/
  ackBuf : List Byte
  /-- `ack_len`, 5 bits (R33). -/
  ackLen : BitVec 5
  /-- `ack_i`, 5 bits (R33). -/
  ackI : BitVec 5
  /-- A READ_WAIT is held: the poll context waits in it for a byte (R104, R206, R207, R230). -/
  readHeld : Bool
  /-- The TX output stream, the environment's, oldest byte first (R58). -/
  tx : List Byte
  /-- The rest of the trace: what the environment does next, first item first (R55, log entry 3). -/
  sched : List Stimulus
  /-- What follows the trace (R250, log entry 22). -/
  env : Environment
  /-- The results last put on the output ports. -/
  out : PortOut
  /-- The ghost history (R40). -/
  ghost : Ghost
  /-- How many free values have been drawn (the model's own; R233, log entry 4). -/
  draws : Nat
deriving DecidableEq, Repr

/-- No result on any output port yet. -/
def PortOut.quiet : PortOut :=
  { hostRdata := none, hostCount := none, stData := none, wrOk := none, rdData := none, rdEmpty := none,
    ringCount := none }

/-- The empty history. -/
def Ghost.start : Ghost := { events := [], termSincePoll := false, accepted := 0, popped := 0 }

/-- Nothing follows the trace but turns of the poll context (DESIGN CHOICE, log entry 22). -/
def Environment.quiet : Environment := { endless := false, polls := true, rounds := 0, ahead := [] }

/-- The machine right after its first RESET with the parameters `c` (R41): `RB` has no slot written. The values of `tok`,
`kind` and `ack_buf`, which the spec leaves unspecified, are zero (DESIGN CHOICE, log entry 2). -/
def State.resetWith (c : Config) : State :=
  { cfg := c
    curCmd := 0#8, prevCmd := 0#8, curMp := 0#10, prevMp := 0#10
    frameReady := false
    head := 0, tail := 0, rb := []
    rom := commandRom
    phase := 0#4
    tok := ⟨0#8, 0#8, 0#8, 0#8⟩
    kind := 0#2
    ackBuf := List.replicate 31 0#8
    ackLen := 0#5, ackI := 0#5
    readHeld := false
    tx := []
    sched := []
    env := Environment.quiet
    out := PortOut.quiet
    ghost := Ghost.start
    draws := 0 }

/-- The machine right after RESET (R41), with the parameters of the spec's test vectors (DESIGN CHOICE, log entry 1). -/
def State.reset : State := State.resetWith Config.vectors

end Sys2Proof.Machine
end

