-- ==== Sys2Proof/Machine/Ops.lean ====
section
/-! DEFINITION. The shared operations: named updates of the state, the ring storage, PUSH, POP and COUNT, the conditions
under which an operation has a step, the PRODUCER step that an RX event takes, and which port bits the next step acts on. -/

namespace Sys2Proof.Machine

/-- The three outcomes of a step of this machine. -/
abbrev Result := Host.Outcome State Fault Refusal

/-! ### Named updates -/

/-- `TxEmit` of each byte in turn (R58). It never waits (R59). -/
def State.emit (bs : List Byte) (s : State) : State := { s with tx := s.tx ++ bs }
/-- `phase <- p`. -/
def State.setPhase (p : BitVec 4) (s : State) : State := { s with phase := p }
/-- `frame_ready <- b`. -/
def State.setReady (b : Bool) (s : State) : State := { s with frameReady := b }
/-- `head <- h`. -/
def State.setHead (h : Nat) (s : State) : State := { s with head := h }
/-- `tail <- t`. -/
def State.setTail (t : Nat) (s : State) : State := { s with tail := t }
/-- The ring storage becomes `m`. -/
def State.setRb (m : List Host.Cell) (s : State) : State := { s with rb := m }
/-- `tok <- t`. -/
def State.setTok (t : Token) (s : State) : State := { s with tok := t }
/-- The output ports show `o`. -/
def State.setOut (o : PortOut) (s : State) : State := { s with out := o }
/-- The ghost history becomes `g`. -/
def State.setGhost (g : Ghost) (s : State) : State := { s with ghost := g }
/-- Whether a READ_WAIT is held. -/
def State.setHeld (b : Bool) (s : State) : State := { s with readHeld := b }
/-- The shared command state (R20). -/
def State.setShared (cc pc : BitVec 8) (cm pm : BitVec 10) (s : State) : State :=
  { s with curCmd := cc, prevCmd := pc, curMp := cm, prevMp := pm }
/-- `kind` and `ack_buf`. -/
def State.setLine (k : BitVec 2) (buf : List Byte) (s : State) : State := { s with kind := k, ackBuf := buf }
/-- `ack_len` and `ack_i`. -/
def State.setAckPos (len i : BitVec 5) (s : State) : State := { s with ackLen := len, ackI := i }
/-- The environment's part: the rest of the trace and the count of draws. -/
def State.setTrace (sched : List Stimulus) (draws : Nat) (s : State) : State :=
  { s with sched := sched, draws := draws }

/-- The trace and what follows it. -/
def State.setRound (sched : List Stimulus) (e : Environment) (s : State) : State := { s with sched := sched, env := e }

/-- Append to the ghost history (R201). -/
def State.log (e : GhostEvent) (s : State) : State := s.setGhost { s.ghost with events := s.ghost.events ++ [e] }
/-- Append to the ghost history when `c` holds. -/
def State.logIf (c : Bool) (e : GhostEvent) (s : State) : State := if c then s.log e else s
/-- Note in the ghost history whether a terminator came since the POLL. -/
def State.markTerm (b : Bool) (s : State) : State := s.setGhost { s.ghost with termSincePoll := b }

/-! ### The ring storage, RBSPACE (R50) -/

/-- The byte at address `a`; `none` where nothing was written ("After power-up the contents are unspecified", R28; log
entry 5). -/
def Memory.read : List Host.Cell → Nat → Option Byte
  | [], _ => none
  | c :: cs, a => if c.1 = a then some c.2 else Memory.read cs a

/-- The storage after `b` is written at `a`, in canonical form again. -/
def Memory.write : List Host.Cell → Nat → Byte → List Host.Cell
  | [], a, b => [(a, b)]
  | c :: cs, a, b =>
    if a < c.1 then (a, b) :: c :: cs
    else if a = c.1 then (a, b) :: cs
    else c :: Memory.write cs a b

/-- Every address of the list is at least `lo`, and they rise. -/
def Memory.wfFrom : Nat → List Host.Cell → Bool
  | _, [] => true
  | lo, c :: cs => decide (lo ≤ c.1) && Memory.wfFrom (c.1 + 1) cs

/-- The canonical form: addresses strictly rising. An unlisted address reads as `none`, so no entry can equal that. -/
def Memory.wf (m : List Host.Cell) : Bool := Memory.wfFrom 0 m

/-- `RB[a]`, that is `MemRead(RBSPACE + a, 1)` (R9). -/
def State.ringRead (s : State) (a : Nat) : Except Fault Byte :=
  if a < s.cfg.n then
    match Memory.read s.rb a with
    | some b => .ok b
    | none => .error .ringUnwritten
  else .error .ringOutside

/-- `RB[a] <- b` (R9). -/
def State.ringWrite (a : Nat) (b : Byte) (s : State) : Except Fault State :=
  if a < s.cfg.n then .ok (s.setRb (Memory.write s.rb a b)) else .error .ringOutside

/-! ### COUNT, PUSH, POP -/

/-- `count()`, the occupied count (R100). -/
def State.count (s : State) : Nat :=
  if s.tail ≥ s.head then s.tail - s.head else s.cfg.n - s.head + s.tail

/-- The successor of an index: "the exact remainder", never a mask (R106). -/
def State.nextIndex (s : State) (i : Nat) : Nat := (i + 1) % s.cfg.n

/-- PUSH(b) (R101). The first component is `wr_ok`. -/
def State.pushByte (b : Byte) (s : State) : Except Fault (Bool × State) :=
  if s.count = s.cfg.n - 1 then .ok (false, s.setOut { s.out with wrOk := some false })
  else
    match s.ringWrite s.tail b with
    | .error f => .error f
    | .ok s1 =>
      .ok (true, ((s1.setTail (s.nextIndex s.tail)).setOut { s.out with wrOk := some true }).setGhost
        { s.ghost with accepted := s.ghost.accepted + 1 })

/-- POP() (R102). The first component is `rd_data`; `rd_empty` goes to its output port. -/
def State.popByte (s : State) : Except Fault (Byte × State) :=
  if s.head = s.tail then
    .ok (sent, (s.setOut { s.out with rdData := some sent, rdEmpty := some true }).log .emptyPop)
  else
    match s.ringRead s.head with
    | .error f => .error f
    | .ok b =>
      .ok (b, ((s.setHead (s.nextIndex s.head)).setOut { s.out with rdData := some b, rdEmpty := some false }).setGhost
        { s.ghost with popped := s.ghost.popped + 1 })

/-- The occupied slots, oldest first: `RB[head], RB[(head+1) mod N], ...` (R35 item 4). A slot nothing was written to
gives no byte. -/
def State.contents (s : State) : List Byte :=
  (List.range s.count).filterMap (fun k => Memory.read s.rb ((s.head + k) % s.cfg.n))

/-! ### Taking an RX event -/

/-- Taking the interrupt: the one PRODUCER step of an RX event (R120, R206). It pushes `b`, then emits `echo` whether or
not the push was accepted (R123). It saves nothing and touches nothing of the poll context (R125, R206); there is nothing
to restore when it returns (R207). `drop` is the ghost event of a refused push (R201). -/
def State.takeRx (b : Byte) (echo : List Byte) (drop : GhostEvent) (s : State) : Except Fault State :=
  match s.pushByte b with
  | .error f => .error f
  | .ok (ok, s1) => .ok ((s1.emit echo).logIf (!ok) drop)

/-! ### Conditions -/

/-- A CONSUMER micro-step: it is the one `phase` names (R132), else the operation has no step. -/
def State.atPhase (s : State) (p : BitVec 4) (r : Result) : Result :=
  if s.phase = p then r else .refused .notEnabled

/-- A HOST request is accepted only when `phase == IDLE` (R77, R131), and not while a READ_WAIT holds the poll context
(R104). -/
def State.whenIdle (s : State) (r : Result) : Result :=
  if s.phase = Phase.idle then (if s.readHeld then .refused .hostHolding else r) else .refused .hostBusy

/-- A token class is classified only in CLASSIFY, and only when it is the class of the token there (R162 to R184). -/
def State.whenToken (s : State) (here : Bool) (r : Result) : Result :=
  s.atPhase Phase.classify (if here then r else .refused .notEnabled)

/-! ### The next step's port bits -/

/-- What the poll context does on its turn: a held READ_WAIT re-tests its condition (R207), else the CONSUMER's
micro-step is the one `phase` names (R132), which in IDLE is none (the row IDLE). -/
def State.pollWord (s : State) : PortWord :=
  if s.readHeld && s.phase == Phase.idle then .hop3 0b010#3 else .seq4 s.phase

/-- The stimuli that come from outside the poll context: RX events, RESET, and the READER's reads and writes (R8, R55). A
READER makes no 16-bit read at an odd offset (R52). -/
def fromOutside : Stimulus → Bool
  | .rx _ | .rst _ | .stWrite _ _ => true
  | .stRead wide addr => !wide || decide (addr.toNat % 2 = 0)
  | .host _ | .turn => false

/-- The HOST's next request, and those it makes before the POLL after it: one of those ahead, or the POLL that falls due,
with a new list drawn (R250). -/
def Environment.request (e : Environment) : BitVec 3 × List (BitVec 3) :=
  match e.ahead with
  | [] => (0b001#3, Config.requests e.rounds)
  | op :: ops => (op, ops)

/-- The poll context can take a HOST request: it is in IDLE and no READ_WAIT holds it (R104, R131). -/
def State.takesRequest (s : State) : Bool := decide (s.phase = Phase.idle) && !s.readHeld

/-- A round of an endless run (R250): what reaches the core from outside, then the poll context's turn. In IDLE that turn
is the HOST's next request, when the HOST makes any. -/
def State.drawRound (s : State) : State :=
  let arrived := (Config.arrivals s.env.rounds).filter fromOutside
  if s.takesRequest && s.env.polls then
    s.setRound (arrived ++ [.host s.env.request.1])
      { s.env with rounds := s.env.rounds + 1, ahead := s.env.request.2 }
  else s.setRound (arrived ++ [.turn]) { s.env with rounds := s.env.rounds + 1 }

/-- At the trace's end an endless run draws its next round. -/
def State.refill (s : State) : State :=
  match s.sched with
  | [] => if s.env.endless then s.drawRound else s
  | _ :: _ => s

/-- The port bits that the next step acts on: the trace's next item, or the poll context's turn when nothing more follows
(the weak fairness of R250; log entries 3 and 22). `none` for a write to the status view, which no operation of the table
is. -/
def State.nextWord (s : State) : Option PortWord :=
  match s.refill.sched with
  | [] => some s.pollWord
  | .rx b :: _ => some (.rxb8 b)
  | .host op :: _ => some (.hop3 op)
  | .turn :: _ => some s.pollWord
  | .rst _ :: _ => some (.rst 1#1)
  | .stRead wide addr :: _ => some (.strd wide addr)
  | .stWrite _ _ :: _ => none

/-- The bytes that arrived while RESET was asserted and are delivered after it (R233): each is kept or lost as the free
value at its draw says. -/
def keptBytes : Nat → List Byte → List Byte
  | _, [] => []
  | d, b :: bs => if Config.keepsResetByte d then b :: keptBytes (d + 1) bs else keptBytes (d + 1) bs

/-- The state with the trace's next item taken off. After a RESET the bytes the environment held are delivered, in
arrival order (R203, R233). -/
def State.consume (s : State) : State :=
  match s.refill.sched with
  | [] => s.refill
  | .rst arriving :: rest =>
    s.refill.setTrace ((keptBytes s.draws arriving).map Stimulus.rx ++ rest) (s.draws + arriving.length)
  | _ :: rest => s.refill.setTrace rest s.draws

/-- A write to the status view: "a write to any offset is ignored" (R37). -/
def State.statusWrite (s : State) : State := s

end Sys2Proof.Machine
end

