-- ==== Sys2Proof/Machine/Flags.lean ====
section
/-! DEFINITION. The flags: `frame_ready`, and the predicates that the STATUS byte shows (R34, R38, R103). -/

namespace Sys2Proof.Machine

/-- `empty()`: `head == tail` (R103); STATUS.RB_EMPTY. -/
def State.rbEmpty (s : State) : Bool := decide (s.head = s.tail)

/-- `full()`: `count() == N - 1` (R103); STATUS.RB_FULL. -/
def State.rbFull (s : State) : Bool := decide (s.count = s.cfg.n - 1)

/-- STATUS.BUSY: `phase != IDLE` (R38). -/
def State.busy (s : State) : Bool := decide (s.phase ≠ Phase.idle)

/-- The STATUS byte (R38): PHASE [7:4], BUSY [3], RB_FULL [2], RB_EMPTY [1], FRAME_READY [0]. -/
def State.statusFlags (s : State) : Byte :=
  s.phase ++ BitVec.ofBool s.busy ++ BitVec.ofBool s.rbFull ++ BitVec.ofBool s.rbEmpty ++ BitVec.ofBool s.frameReady

/-- `frame_ready <- 1`, by a terminator (R121). -/
def State.raiseReady (s : State) : State := (s.setReady true).markTerm true

/-- `frame_ready <- 0`, by CLEAR (R136). EV_LOST_READY is noted when a terminator set the flag during the cycle (R201). -/
def State.dropReady (s : State) : State :=
  ((s.logIf s.ghost.termSincePoll .lostReady).setReady false).markTerm false

end Sys2Proof.Machine
end

