-- ==== Sys2Proof/Machine/Operands.lean ====
section
/-! DEFINITION. What the operations compute from tokens, ROM and the status offsets: the scan, the page number, the
acknowledgment lines, the three classification effects and the status view. -/

namespace Sys2Proof.Machine

/-! ### ROM and the scan -/

/-- `ROM[i][j]`, byte `4*i + j` of ROMSPACE (R9, R50). -/
def State.romByte (s : State) (i j : Nat) : Option Byte :=
  match s.rom[i]? with
  | some t => t.chars[j]?
  | none => none

/-- Entries from ordinal `i` on, in table order: the first exact match wins (R160). -/
def scanFrom (i : Nat) (tok : Token) : List Token → Option Nat
  | [] => none
  | e :: es => if e = tok then some i else scanFrom (i + 1) tok es

/-- `Scan(tok)` (R160): ordinals 0..SCAN_LAST are compared, entry 19 never is (R181). -/
def scan (rom : List Token) (tok : Token) : Option Nat := scanFrom 0 tok (rom.take (scanLast + 1))

/-- The three classes of a token (R84). -/
inductive TokenClass where
  | table (i : Nat)
  | page
  | unknown
deriving DecidableEq, Repr

/-- R84's precedence: table, motion page, not found. -/
def classOf (rom : List Token) (tok : Token) : TokenClass :=
  match scan rom tok with
  | some i => .table i
  | none => if isPageForm tok.t0 tok.t1 then .page else .unknown

/-! ### The page number -/

/-- The accumulation of R183: "a non-digit in any position stops accumulation at that position". -/
def pageDigits (p : Nat) : List Byte → Nat
  | [] => p
  | c :: cs => if isDigit c then pageDigits (10 * p + digitVal c) cs else p

/-- `PageNumber(tok)` (R183), from `tok[1..3]`. -/
def pageNumber (tok : Token) : Nat := pageDigits 0 [tok.t1, tok.t2, tok.t3]

/-! ### Acknowledgment lines (R79) -/

/-- The line of a table match. -/
def matchLine (tok : Token) (i : Nat) : List Byte := tok.chars ++ textCommand ++ dec i ++ [lineFeed] ++ textPrompt

/-- The line of a motion page. -/
def pageLine (tok : Token) (p : Nat) : List Byte := tok.chars ++ textMotionPage ++ dec p ++ [lineFeed] ++ textPrompt

/-- The line of an unknown command. -/
def unknownLine (tok : Token) : List Byte := tok.chars ++ textUnknown ++ textPrompt

/-- `ack_buf[0..len(line)-1] <- line`: the rest of the buffer keeps what it held (R135). -/
def overwrite (line buf : List Byte) : List Byte := line ++ buf.drop line.length

/-- The end that the three outcomes of CLASSIFY share: `kind`, the line, `ack_len`, `ack_i` and `phase <- CLEAR` (R135). -/
def State.finishClassify (kind : BitVec 2) (line : List Byte) (s : State) : State :=
  ((s.setLine kind (overwrite line s.ackBuf)).setAckPos (BitVec.ofNat 5 line.length) 0#5).setPhase Phase.clear

/-! ### The three outcomes of CLASSIFY -/

/-- A table match of ordinal `i`: `MatchEffect(i)` (R161) and its line. -/
def State.classifyMatch (i : Nat) (s : State) : State :=
  (s.setShared (BitVec.ofNat 8 i) s.curCmd s.curMp s.prevMp).finishClassify Kind.isMatch (matchLine s.tok i)

/-- The motion-page form: `MotionPage(tok)` (R182) and its line. -/
def State.classifyPage (s : State) : State :=
  (s.setShared mpOrd s.prevCmd (BitVec.ofNat 10 (pageNumber s.tok)) s.curMp).finishClassify Kind.page
    (pageLine s.tok (pageNumber s.tok))

/-- Not found: `NotFound()` (R184) and its line, with the ghost events of R201. -/
def State.classifyUnknown (s : State) : State :=
  (((s.setShared s.cfg.notFoundOrd s.prevCmd s.curMp s.prevMp).finishClassify Kind.unknown (unknownLine s.tok)).log
    .notFound).logIf (s.tok.t0 == letterM) .mpMalformed

/-! ### Fetching a character -/

/-- FETCHk (R133), past its condition on `phase`. -/
def State.fetchChar (k : Nat) (s : State) : Result :=
  match s.popByte with
  | .error f => .fault f
  | .ok (v, s1) =>
    if fold v = sent then .next ((s1.setTok (s1.tok.padFrom k)).setPhase Phase.drain)
    else .next ((s1.setTok (s1.tok.put k (fold v))).setPhase (Phase.afterFetch k))

/-! ### The status view, STSPACE (R37) -/

/-- The low byte of a 16-bit field (R51: little-endian). -/
def lowByte (v : BitVec 16) : Byte := v.extractLsb' 0 8

/-- The high byte of a 16-bit field. -/
def highByte (v : BitVec 16) : Byte := v.extractLsb' 8 8

/-- The byte of the status view at an offset (R37). The offsets 0x7, 0xE and 0xF are reserved and read 0. -/
def State.statusByte (s : State) (addr : BitVec 4) : Byte :=
  match addr.toNat with
  | 0x0 => s.curCmd
  | 0x1 => s.prevCmd
  | 0x2 => lowByte (s.curMp.zeroExtend 16)
  | 0x3 => highByte (s.curMp.zeroExtend 16)
  | 0x4 => lowByte (s.prevMp.zeroExtend 16)
  | 0x5 => highByte (s.prevMp.zeroExtend 16)
  | 0x6 => s.statusFlags
  | 0x8 => lowByte (BitVec.ofNat 16 s.count)
  | 0x9 => highByte (BitVec.ofNat 16 s.count)
  | 0xA => lowByte (BitVec.ofNat 16 s.head)
  | 0xB => highByte (BitVec.ofNat 16 s.head)
  | 0xC => lowByte (BitVec.ofNat 16 s.tail)
  | 0xD => highByte (BitVec.ofNat 16 s.tail)
  | _ => 0#8

/-- A 16-bit read at an even offset: the even byte is bits [7:0], the odd one bits [15:8], as R37 and R51 say of the 16-bit
fields. DESIGN CHOICE (log entry 23): at 0x0 (CUR_CMD, PREV_CMD) and 0x6 (STATUS, reserved) such a read spans two 8-bit
fields, for which no rule gives an order; the model takes the same one. -/
def State.statusHalf (s : State) (addr : BitVec 4) : BitVec 16 := s.statusByte (addr + 1#4) ++ s.statusByte addr

end Sys2Proof.Machine
end

