-- ==== Sys2Proof/Machine/Commands.lean ====
section
/-! DEFINITION. One meaning per token class of the opcode table: what CLASSIFY does when the token is of that class
(43_command_table.md). -/

namespace Sys2Proof.Machine

/-- The meaning that the 19 table commands share: "CONSUMER in CLASSIFY, with `tok` == " the row's token; then
`MatchEffect(i); kind <- MATCH`, the line, and the end of CLASSIFY (R135, R161). -/
def State.runCommand (word : BitVec 32) (i : Nat) (s : State) : Result :=
  s.whenToken (s.tok == Token.ofWord word) (.next (s.classifyMatch i))

/-- CMD_STOP (R162), ordinal 0, token `"STOP"`. -/
def execCmdStop (s : State) : Result := s.runCommand 0x53544F50#32 0

/-- CMD_WF (R163), ordinal 1, token `"WF  "`. -/
def execCmdWf (s : State) : Result := s.runCommand 0x57462020#32 1

/-- CMD_WB (R164), ordinal 2, token `"WB  "`. -/
def execCmdWb (s : State) : Result := s.runCommand 0x57422020#32 2

/-- CMD_WLT (R165), ordinal 3, token `"WLT "`. -/
def execCmdWlt (s : State) : Result := s.runCommand 0x574C5420#32 3

/-- CMD_WRT (R166), ordinal 4, token `"WRT "`. -/
def execCmdWrt (s : State) : Result := s.runCommand 0x57525420#32 4

/-- CMD_WLS (R167), ordinal 5, token `"WLS "`. -/
def execCmdWls (s : State) : Result := s.runCommand 0x574C5320#32 5

/-- CMD_WRS (R168), ordinal 6, token `"WRS "`. -/
def execCmdWrs (s : State) : Result := s.runCommand 0x57525320#32 6

/-- CMD_WFLS (R169), ordinal 7, token `"WFLS"`. -/
def execCmdWfls (s : State) : Result := s.runCommand 0x57464C53#32 7

/-- CMD_WFRS (R170), ordinal 8, token `"WFRS"`. -/
def execCmdWfrs (s : State) : Result := s.runCommand 0x57465253#32 8

/-- CMD_WBLS (R171), ordinal 9, token `"WBLS"`. -/
def execCmdWbls (s : State) : Result := s.runCommand 0x57424C53#32 9

/-- CMD_WBRS (R172), ordinal 10, token `"WBRS"`. -/
def execCmdWbrs (s : State) : Result := s.runCommand 0x57425253#32 10

/-- CMD_WAL (R173), ordinal 11, token `"WAL "`. -/
def execCmdWal (s : State) : Result := s.runCommand 0x57414C20#32 11

/-- CMD_WAR (R174), ordinal 12, token `"WAR "`. -/
def execCmdWar (s : State) : Result := s.runCommand 0x57415220#32 12

/-- CMD_WFLT (R175), ordinal 13, token `"WFLT"`. -/
def execCmdWflt (s : State) : Result := s.runCommand 0x57464C54#32 13

/-- CMD_WFRT (R176), ordinal 14, token `"WFRT"`. -/
def execCmdWfrt (s : State) : Result := s.runCommand 0x57465254#32 14

/-- CMD_WBLT (R177), ordinal 15, token `"WBLT"`. -/
def execCmdWblt (s : State) : Result := s.runCommand 0x57424C54#32 15

/-- CMD_WBRT (R178), ordinal 16, token `"WBRT"`. -/
def execCmdWbrt (s : State) : Result := s.runCommand 0x57425254#32 16

/-- CMD_SIT (R179), ordinal 17, token `"SIT "`. -/
def execCmdSit (s : State) : Result := s.runCommand 0x53495420#32 17

/-- CMD_BAL (R180), ordinal 18, token `"BAL "`. -/
def execCmdBal (s : State) : Result := s.runCommand 0x42414C20#32 18

/-- M_RESERVED (R181): the token `"M   "`, which the scan never compares, is NOT_FOUND. -/
def execMReserved (s : State) : Result :=
  s.whenToken (s.tok == Token.ofWord 0x4D202020#32) (.next s.classifyUnknown)

/-- MOTION_PAGE (R182): the token is `M`, the digit `b`, then `c` and `d`. -/
def execMotionPage (b c d : Byte) (s : State) : Result :=
  s.whenToken (s.tok == ⟨letterM, b, c, d⟩ && isDigit b) (.next s.classifyPage)

/-- NOT_FOUND (R184): the token is `a b c d`, of no table entry and not of the motion-page form. -/
def execNotFound (a b c d : Byte) (s : State) : Result :=
  s.whenToken (s.tok == ⟨a, b, c, d⟩ && classOf s.rom s.tok == .unknown) (.next s.classifyUnknown)

end Sys2Proof.Machine
end

