-- ==== Sys2Proof/Machine/HostPort.lean ====
section
/-! DEFINITION. The HOST operations (R77, R104, R105, R130, R131). -/

namespace Sys2Proof.Machine

/-- NOP (R77): no effect, no result. -/
def execNop (s : State) : Result := s.whenIdle (.next s)

/-- The reserved codes 0b100..0b111 (R77, D22): no effect, no result. -/
def execHopReserved (_low : BitVec 2) (s : State) : Result := s.whenIdle (.next s)

/-- POLL with `frame_ready == 0` (R130): `skip`. -/
def execPollNoframe (s : State) : Result :=
  s.whenIdle (if s.frameReady then .refused .notEnabled else .next s)

/-- POLL with `frame_ready == 1` (R131): `phase <- FETCH0`. -/
def execPollFrame (s : State) : Result :=
  s.whenIdle (if s.frameReady then .next ((s.setPhase Phase.fetch0).markTerm false) else .refused .notEnabled)

/-- READ_WAIT (R104): "hold until count() > 0", then POP. While it holds it is the poll context's next step, and this is
also its re-test (R207). -/
def execReadWait (s : State) : Result :=
  if s.phase = Phase.idle then
    if s.count = 0 then .next (s.setHeld true)
    else
      match s.popByte with
      | .error f => .fault f
      | .ok (v, t) => .next ((t.setHeld false).setOut { t.out with hostRdata := some v })
  else .refused .hostBusy

/-- COUNT (R105): `host_count <- zext_16(count())`. -/
def execCount (s : State) : Result :=
  s.whenIdle (.next (s.setOut { s.out with hostCount := some (BitVec.ofNat 16 s.count) }))

end Sys2Proof.Machine
end

