-- ==== Sys2Proof/Machine/Platform.lean ====
section
/-! DEFINITION. RESET (R230) and the READER's status read (R39). -/

namespace Sys2Proof.Machine

/-- RESET (R230): the registers listed there take their values; `RB`, `tok`, `kind` and `ack_buf` keep what they hold,
emitted bytes are not retracted, and a held READ_WAIT is abandoned. The ghost counts start again (R108). -/
def execReset (s : State) : Result :=
  .next
    ((((((((s.setHead 0).setTail 0).setReady false).setShared 0#8 0#8 0#10 0#10).setPhase Phase.idle).setAckPos 0#5 0#5).setHeld
      false).setGhost { s.ghost with termSincePoll := false, accepted := 0, popped := 0 })

/-- ST_READ (R39): 8 bits at any offset, or 16 bits at an even one. No side effect. A 16-bit read at an odd offset is
refused (R52). -/
def execStRead (wide : Bool) (addr : BitVec 4) (s : State) : Result :=
  if wide then
    if addr.toNat % 2 = 0 then .next (s.setOut { s.out with stData := some (.half (s.statusHalf addr)) })
    else .refused .misalignedStatusRead
  else .next (s.setOut { s.out with stData := some (.byte (s.statusByte addr)) })

end Sys2Proof.Machine
end

