-- ==== Sys2Proof/Machine/Producer.lean ====
section
/-! DEFINITION. The PRODUCER: RX_TERM and RX_DATA (41_receive_handler.md). -/

namespace Sys2Proof.Machine

/-- RX_TERM (R121): `frame_ready <- 1; PUSH(0xFF); TxEmit(0x0D); TxEmit(0x0A)`. -/
def execRxTerm (s : State) : Result :=
  match s.raiseReady.takeRx sent [term, lineFeed] .dropSent with
  | .error f => .fault f
  | .ok t => .next t

/-- RX_DATA (R122): `PUSH(b); TxEmit(b)`, for `b != 0x0D`. -/
def execRxData (b : Byte) (s : State) : Result :=
  if b = term then .refused .notEnabled
  else
    match s.takeRx b [b] .dropData with
    | .error f => .fault f
    | .ok t => .next t

end Sys2Proof.Machine
end

