-- ==== Sys2Proof/Machine/RingPort.lean ====
section
/-! DEFINITION. The ring buffer's internal port operations (R78, R100 to R102). They are parts of other steps; no step of
a run is one of them alone (R55). -/

namespace Sys2Proof.Machine

/-- PUSH (R101). -/
def execPush (b : Byte) (s : State) : Result :=
  match s.pushByte b with
  | .error f => .fault f
  | .ok (_, t) => .next t

/-- POP (R102). -/
def execPop (s : State) : Result :=
  match s.popByte with
  | .error f => .fault f
  | .ok (_, t) => .next t

/-- RB_COUNT (R100): the combinational output `count`. It writes nothing else. -/
def execRbCount (s : State) : Result := .next (s.setOut { s.out with ringCount := some s.count })

end Sys2Proof.Machine
end

