-- ==== Sys2Proof/Machine/Sequencer.lean ====
section
/-! DEFINITION. The CONSUMER's micro-steps (42_dispatcher.md). -/

namespace Sys2Proof.Machine

/-- FETCH0 (R133, k = 0). -/
def execFetch0 (s : State) : Result := s.atPhase Phase.fetch0 (s.fetchChar 0)

/-- FETCH1 (R133, k = 1). -/
def execFetch1 (s : State) : Result := s.atPhase Phase.fetch1 (s.fetchChar 1)

/-- FETCH2 (R133, k = 2). -/
def execFetch2 (s : State) : Result := s.atPhase Phase.fetch2 (s.fetchChar 2)

/-- FETCH3 (R133, k = 3). -/
def execFetch3 (s : State) : Result := s.atPhase Phase.fetch3 (s.fetchChar 3)

/-- DRAIN (R134): one unconditional POP, its value discarded. -/
def execDrain (s : State) : Result :=
  s.atPhase Phase.drain
    (match s.popByte with
     | .error f => .fault f
     | .ok (_, t) => .next (t.setPhase Phase.classify))

/-- CLASSIFY (R135): scan ROM, then the motion-page form, then not found. -/
def execClassify (s : State) : Result :=
  s.atPhase Phase.classify
    (match classOf s.rom s.tok with
     | .table i => .next (s.classifyMatch i)
     | .page => .next s.classifyPage
     | .unknown => .next s.classifyUnknown)

/-- CLEAR (R136): `frame_ready <- 0; phase <- ACK`. -/
def execClear (s : State) : Result := s.atPhase Phase.clear (.next (s.dropReady.setPhase Phase.ack))

/-- ACK (R137): emit `ack_buf[ack_i]`, then step `ack_i` or end the cycle. A `kind` of 3 faults
(93_implementation_defined.md row 8). -/
def execAck (s : State) : Result :=
  s.atPhase Phase.ack
    (if s.kind = Kind.unused then .fault .unusedKind
     else
       match s.ackBuf[s.ackI.toNat]? with
       | none => .fault .ackOutside
       | some b =>
         if s.ackI.toNat + 1 = s.ackLen.toNat then
           .next (((s.emit [b]).setAckPos 0#5 0#5).setPhase Phase.idle)
         else .next ((s.emit [b]).setAckPos s.ackLen (s.ackI + 1#5)))

/-- IDLE (R132): the CONSUMER has no step; it waits for a POLL. -/
def execIdle (s : State) : Result := s.atPhase Phase.idle (.next s)

/-- PHASE_UNUSED (R76): "a model that finds one faults (none can)". -/
def execPhaseUnused (_p : BitVec 4) (_s : State) : Result := .fault .unusedPhase

end Sys2Proof.Machine
end

