-- ==== Sys2Proof/Machine/Dispatch.lean ====
section
/-! DEFINITION. From an operation to its meaning, one arm per constructor. -/

namespace Sys2Proof.Machine

def exec (i : Instr) (s : State) : Host.Outcome State Fault Refusal :=
  match i with
  | .rxTerm => Sys2Proof.Machine.execRxTerm s
  | .rxData b => Sys2Proof.Machine.execRxData b s
  | .nop => Sys2Proof.Machine.execNop s
  | .pollNoframe => Sys2Proof.Machine.execPollNoframe s
  | .pollFrame => Sys2Proof.Machine.execPollFrame s
  | .readWait => Sys2Proof.Machine.execReadWait s
  | .count => Sys2Proof.Machine.execCount s
  | .hopReserved low => Sys2Proof.Machine.execHopReserved low s
  | .push b => Sys2Proof.Machine.execPush b s
  | .pop => Sys2Proof.Machine.execPop s
  | .rbCount => Sys2Proof.Machine.execRbCount s
  | .fetch0 => Sys2Proof.Machine.execFetch0 s
  | .fetch1 => Sys2Proof.Machine.execFetch1 s
  | .fetch2 => Sys2Proof.Machine.execFetch2 s
  | .fetch3 => Sys2Proof.Machine.execFetch3 s
  | .drain => Sys2Proof.Machine.execDrain s
  | .classify => Sys2Proof.Machine.execClassify s
  | .clear => Sys2Proof.Machine.execClear s
  | .ack => Sys2Proof.Machine.execAck s
  | .idle => Sys2Proof.Machine.execIdle s
  | .phaseUnused p => Sys2Proof.Machine.execPhaseUnused p s
  | .cmdStop => Sys2Proof.Machine.execCmdStop s
  | .cmdWf => Sys2Proof.Machine.execCmdWf s
  | .cmdWb => Sys2Proof.Machine.execCmdWb s
  | .cmdWlt => Sys2Proof.Machine.execCmdWlt s
  | .cmdWrt => Sys2Proof.Machine.execCmdWrt s
  | .cmdWls => Sys2Proof.Machine.execCmdWls s
  | .cmdWrs => Sys2Proof.Machine.execCmdWrs s
  | .cmdWfls => Sys2Proof.Machine.execCmdWfls s
  | .cmdWfrs => Sys2Proof.Machine.execCmdWfrs s
  | .cmdWbls => Sys2Proof.Machine.execCmdWbls s
  | .cmdWbrs => Sys2Proof.Machine.execCmdWbrs s
  | .cmdWal => Sys2Proof.Machine.execCmdWal s
  | .cmdWar => Sys2Proof.Machine.execCmdWar s
  | .cmdWflt => Sys2Proof.Machine.execCmdWflt s
  | .cmdWfrt => Sys2Proof.Machine.execCmdWfrt s
  | .cmdWblt => Sys2Proof.Machine.execCmdWblt s
  | .cmdWbrt => Sys2Proof.Machine.execCmdWbrt s
  | .cmdSit => Sys2Proof.Machine.execCmdSit s
  | .cmdBal => Sys2Proof.Machine.execCmdBal s
  | .mReserved => Sys2Proof.Machine.execMReserved s
  | .motionPage b c d => Sys2Proof.Machine.execMotionPage b c d s
  | .notFound a b c d => Sys2Proof.Machine.execNotFound a b c d s
  | .reset => Sys2Proof.Machine.execReset s
  | .stRead wide addr => Sys2Proof.Machine.execStRead wide addr s

end Sys2Proof.Machine
end

