-- ==== Sys2Proof/Machine/Step.lean ====
section
/-! DEFINITION. One step of a run: the trace's next item, decoded and executed. -/

namespace Sys2Proof.Machine

/-- One atomic step (R5, R55): take the next item off the trace, decode its port bits, run the operation. A write to the
status view is no operation and changes nothing (R37). -/
def step (s : State) : Host.Outcome State Fault Refusal :=
  match s.nextWord with
  | none => .next s.consume.statusWrite
  | some w =>
    match decode s.frameReady w with
    | .ok i => exec i s.consume
    | .error e => .refused (.undecodable e)

/-- The poll context stands at phase `p`, with no READ_WAIT held. -/
def State.placePhase (p : BitVec 4) (s : State) : State := { s with phase := p, readHeld := false }

/-- `s` with the operation whose table word is `w` placed so that the next step runs it: an RX byte, a HOST request or
RESET is the trace's next item; a micro-step is the phase; a token is in `tok` with the phase at CLASSIFY. The RBP
operations are parts of other steps (R78), so nothing is placed for them. -/
def State.withFetchWord (s : State) (nbits w : Nat) : State :=
  match tableWord nbits w with
  | some (.rxb8 b) => { s with sched := .rx b :: s.sched }
  | some (.hop3 op) =>
    { s.placePhase Phase.idle with frameReady := false, sched := .host op :: s.sched }
  | some (.seq4 p) => { s.placePhase p with sched := .turn :: s.sched }
  | some (.tok32 t) => { s.placePhase Phase.classify with tok := Token.ofWord t, sched := .turn :: s.sched }
  | some (.rst _) => { s with sched := .rst [] :: s.sched }
  | some (.strd wide addr) => { s with sched := .stRead wide addr :: s.sched }
  | some (.rbp _ _) => s
  | none => s

end Sys2Proof.Machine
end

