-- ==== Sys2Proof/WellFormed.lean ====
section
/-! DEFINITION. Which terms of `Instr` are operations of the table: the rows' conditions on their operands. -/

namespace Sys2Proof

/-- The conditions of the opcode table's rows on the bits of the operation itself. -/
def Instr.wf : Instr → Bool
  | .rxTerm => true
  | .rxData b => b != Machine.term
  | .nop => true
  | .pollNoframe => true
  | .pollFrame => true
  | .readWait => true
  | .count => true
  | .hopReserved _ => true
  | .push _ => true
  | .pop => true
  | .rbCount => true
  | .fetch0 => true
  | .fetch1 => true
  | .fetch2 => true
  | .fetch3 => true
  | .drain => true
  | .classify => true
  | .clear => true
  | .ack => true
  | .idle => true
  | .phaseUnused p => decide (9 ≤ p.toNat)
  | .cmdStop => true
  | .cmdWf => true
  | .cmdWb => true
  | .cmdWlt => true
  | .cmdWrt => true
  | .cmdWls => true
  | .cmdWrs => true
  | .cmdWfls => true
  | .cmdWfrs => true
  | .cmdWbls => true
  | .cmdWbrs => true
  | .cmdWal => true
  | .cmdWar => true
  | .cmdWflt => true
  | .cmdWfrt => true
  | .cmdWblt => true
  | .cmdWbrt => true
  | .cmdSit => true
  | .cmdBal => true
  | .mReserved => true
  | .motionPage b _ _ => Machine.isDigit b
  | .notFound a b c d => !(Machine.isPageForm a b) && !(Machine.commandRom.contains ⟨a, b, c, d⟩)
  | .reset => true
  | .stRead wide addr => !wide || addr.toNat % 2 == 0

end Sys2Proof
end

