-- ==== Sys2Proof/Safety.lean ====
section
/-! DEFINITION. What a legal state is, what it means that an operation leaves a part of the state alone, and the
functions of a frame's bytes that the claims about a whole dispatch cycle are stated with. -/

namespace Sys2Proof.Machine

/-! ### Legal states -/

/-- The values `cur_cmd` can have (R21, R185): 0..19, or NOT_FOUND_ORD. -/
abbrev legalOrd (c : Config) (v : BitVec 8) : Prop := v.toNat ≤ 19 ∨ v = c.notFoundOrd

/-- A character that FETCH can store (R74): folded, and not the sentinel. -/
def tokenChar (b : Byte) : Bool := decide (¬(0x61 ≤ b.toNat ∧ b.toNat ≤ 0x7A)) && b != sent

/-- How many characters of `tok` the cycle has written when `phase` is `p` (R133). -/
def fetched (p : BitVec 4) : Nat := if p = Phase.idle then 0 else min (p.toNat - 1) 4

/-- `ack_len` and `ack_i` at each phase (R33, R41, R137): zero before CLASSIFY composes a line of 21..31 bytes, then the
position in it. -/
abbrev ackPosLegal (s : State) : Prop :=
  if s.phase = Phase.ack then s.ackI.toNat < s.ackLen.toNat ∧ 21 ≤ s.ackLen.toNat
  else if s.phase = Phase.clear then s.ackI = 0#5 ∧ 21 ≤ s.ackLen.toNat
  else s.ackI = 0#5 ∧ s.ackLen = 0#5

/-- The states a run can be in. -/
structure Legal (s : State) : Prop where
  /-- The parameters are as R6 allows. -/
  cfg_wf : s.cfg.wf
  /-- ROM holds its 20 entries (R29). -/
  rom_fixed : s.rom = commandRom
  /-- `0 <= head < N` (R35 item 1). -/
  head_lt : s.head < s.cfg.n
  /-- `0 <= tail < N` (R35 item 1). -/
  tail_lt : s.tail < s.cfg.n
  /-- The ring storage is in canonical form. -/
  rb_wf : Memory.wf s.rb = true
  /-- No slot outside RBSPACE is written (R50). -/
  rb_inside : ∀ c ∈ s.rb, c.1 < s.cfg.n
  /-- Every occupied slot was written by a PUSH (R28). -/
  occupied : ∀ k < s.count, (Memory.read s.rb ((s.head + k) % s.cfg.n)).isSome = true
  /-- R21, R185. -/
  cur_cmd_legal : legalOrd s.cfg s.curCmd
  /-- R22. -/
  prev_cmd_legal : legalOrd s.cfg s.prevCmd
  /-- R23: 0..999. -/
  cur_mp_le : s.curMp.toNat ≤ 999
  /-- R24: 0..999. -/
  prev_mp_le : s.prevMp.toNat ≤ 999
  /-- `phase` is one of the nine named values (R76). -/
  phase_named : s.phase.toNat ≤ 8
  /-- Once CLASSIFY has written it, `kind` is not the unused value (R32); before that it is unspecified (R41). -/
  kind_used : s.phase = Phase.clear ∨ s.phase = Phase.ack → s.kind ≠ Kind.unused
  /-- `ack_buf` is 31 bytes (R33). -/
  ack_buf_length : s.ackBuf.length = ackMax
  /-- R33, R137. -/
  ack_pos : ackPosLegal s
  /-- A READ_WAIT is held only in IDLE (R104, R131). -/
  held_idle : s.readHeld = true → s.phase = Phase.idle
  /-- The characters fetched so far are folded and no sentinel (R74). -/
  tok_chars : ∀ c ∈ s.tok.chars.take (fetched s.phase), tokenChar c = true

/-- R108: the occupied count is the accepted PUSHes less the POPs that gave a byte, since RESET. -/
abbrev Conserved (s : State) : Prop := s.ghost.accepted = s.ghost.popped + s.count

/-! ### Frames -/

/-- The shared command state but `frame_ready` (R20) is unchanged. -/
def SameShared (s t : State) : Prop :=
  t.curCmd = s.curCmd ∧ t.prevCmd = s.prevCmd ∧ t.curMp = s.curMp ∧ t.prevMp = s.prevMp

/-- The token, the outcome and the acknowledgment registers are unchanged (R31 to R33). -/
def SameLine (s t : State) : Prop :=
  t.tok = s.tok ∧ t.kind = s.kind ∧ t.ackBuf = s.ackBuf ∧ t.ackLen = s.ackLen ∧ t.ackI = s.ackI

/-- The whole poll context is unchanged: `phase`, the registers of `SameLine`, and a held READ_WAIT (R206). -/
def SamePoll (s t : State) : Prop := t.phase = s.phase ∧ t.readHeld = s.readHeld ∧ SameLine s t

/-- Every byte of the ring storage reads as before. -/
def SameSlots (s t : State) : Prop := ∀ a, Memory.read t.rb a = Memory.read s.rb a

/-- The ring buffer is unchanged. -/
def SameRing (s t : State) : Prop := t.head = s.head ∧ t.tail = s.tail ∧ SameSlots s t

/-- The parameters, ROM, and the environment's part (the trace, what follows it, the draws) are unchanged. -/
def SameFixed (s t : State) : Prop :=
  t.cfg = s.cfg ∧ t.rom = s.rom ∧ t.sched = s.sched ∧ t.env = s.env ∧ t.draws = s.draws

/-! ### A frame's bytes and a dispatch cycle -/

/-- The payload bytes that FETCH0..FETCH3 find: those before the first 0xFF, at most four (R133). -/
def payload (p : List Byte) : List Byte := (p.takeWhile (fun b => b != sent)).take 4

/-- The normalized token of the bytes in RB: folded, and padded with spaces to four characters (R133, R162). -/
def tokenOf (p : List Byte) : Token :=
  { t0 := ((payload p)[0]?.map fold).getD space
    t1 := ((payload p)[1]?.map fold).getD space
    t2 := ((payload p)[2]?.map fold).getD space
    t3 := ((payload p)[3]?.map fold).getD space }

/-- How many POPs a dispatch cycle performs on the bytes in RB (R140): `min(s + 1, 4) + 1` when one of the four values
popped by FETCH is 0xFF, the first at index `s`, an empty RB counting as 0xFF; else 5. -/
def popsOf (p : List Byte) : Nat := if (payload p).length < 4 then min ((payload p).length + 1) 4 + 1 else 5

/-- The line a dispatch cycle emits for a token (R79, R135). -/
def lineOf (rom : List Token) (t : Token) : List Byte :=
  match classOf rom t with
  | .table i => matchLine t i
  | .page => pageLine t (pageNumber t)
  | .unknown => unknownLine t

/-- The most steps the poll context still needs to end the dispatch cycle (R132). -/
def turnsLeft (s : State) : Nat :=
  if s.phase = Phase.idle then 0
  else if s.phase = Phase.ack then s.ackLen.toNat - s.ackI.toNat
  else 39 - s.phase.toNat

/-- The TX bytes of one RX event (R81). -/
def echoOf (b : Byte) : List Byte := if b = term then [term, lineFeed] else [b]

/-- Consecutive PUSHes with no POP between: the `wr_ok` of each, and the state after them (R107). -/
def pushAll : List Byte → State → Option (List (Option Bool) × State)
  | [], s => some ([], s)
  | b :: bs, s =>
    match exec (.push b) s with
    | .next t => (pushAll bs t).map (fun r => (t.out.wrOk :: r.1, r.2))
    | .fault _ => none
    | .refused _ => none

/-- The operation of each table command with its token and its ordinal (R162 to R180). -/
def commandRows : List (Instr × List Byte × Nat) :=
  [(.cmdStop, [0x53#8, 0x54#8, 0x4F#8, 0x50#8], 0), (.cmdWf, [0x57#8, 0x46#8, 0x20#8, 0x20#8], 1),
   (.cmdWb, [0x57#8, 0x42#8, 0x20#8, 0x20#8], 2), (.cmdWlt, [0x57#8, 0x4C#8, 0x54#8, 0x20#8], 3),
   (.cmdWrt, [0x57#8, 0x52#8, 0x54#8, 0x20#8], 4), (.cmdWls, [0x57#8, 0x4C#8, 0x53#8, 0x20#8], 5),
   (.cmdWrs, [0x57#8, 0x52#8, 0x53#8, 0x20#8], 6), (.cmdWfls, [0x57#8, 0x46#8, 0x4C#8, 0x53#8], 7),
   (.cmdWfrs, [0x57#8, 0x46#8, 0x52#8, 0x53#8], 8), (.cmdWbls, [0x57#8, 0x42#8, 0x4C#8, 0x53#8], 9)] ++
  [(.cmdWbrs, [0x57#8, 0x42#8, 0x52#8, 0x53#8], 10), (.cmdWal, [0x57#8, 0x41#8, 0x4C#8, 0x20#8], 11),
   (.cmdWar, [0x57#8, 0x41#8, 0x52#8, 0x20#8], 12), (.cmdWflt, [0x57#8, 0x46#8, 0x4C#8, 0x54#8], 13),
   (.cmdWfrt, [0x57#8, 0x46#8, 0x52#8, 0x54#8], 14), (.cmdWblt, [0x57#8, 0x42#8, 0x4C#8, 0x54#8], 15),
   (.cmdWbrt, [0x57#8, 0x42#8, 0x52#8, 0x54#8], 16), (.cmdSit, [0x53#8, 0x49#8, 0x54#8, 0x20#8], 17),
   (.cmdBal, [0x42#8, 0x41#8, 0x4C#8, 0x20#8], 18)]

/-- The operations that classify the token (R84, R135): CLASSIFY and the table's token rows, which are the same step (log
entry 16). -/
def isTokenClass : Instr → Bool
  | .classify | .cmdStop | .cmdWf | .cmdWb | .cmdWlt | .cmdWrt | .cmdWls | .cmdWrs | .cmdWfls | .cmdWfrs | .cmdWbls
  | .cmdWbrs | .cmdWal | .cmdWar | .cmdWflt | .cmdWfrt | .cmdWblt | .cmdWbrt | .cmdSit | .cmdBal | .mReserved
  | .motionPage _ _ _ | .notFound _ _ _ _ => true
  | _ => false

/-- FETCHk by its number. -/
def fetchOps : List (Nat × Instr) := [(0, .fetch0), (1, .fetch1), (2, .fetch2), (3, .fetch3)]

/-- The HOST's operations, with the codes of the reserved row (R77). -/
def hostOps : List Instr :=
  [.nop, .pollNoframe, .pollFrame, .readWait, .count, .hopReserved 0#2, .hopReserved 1#2, .hopReserved 2#2,
   .hopReserved 3#2]

/-- The line that CLASSIFY composed stands in the registers: `kind`, the line at the start of `ack_buf` and the old bytes
after it, `ack_len`, `ack_i` and the next phase (R135). -/
def LineComposed (s t : State) (kind : BitVec 2) (line : List Byte) : Prop :=
  t.kind = kind ∧ t.ackLen.toNat = line.length ∧ t.ackI = 0#5 ∧ t.phase = Phase.clear ∧
  t.ackBuf.take line.length = line ∧ t.ackBuf.drop line.length = s.ackBuf.drop line.length

/-- What CLASSIFY never touches: the ring, `frame_ready`, the token, a held READ_WAIT, the TX stream, the output ports and
what is fixed (R36, R135). -/
def SameBesideClassify (s t : State) : Prop :=
  SameRing s t ∧ t.frameReady = s.frameReady ∧ t.tok = s.tok ∧ t.readHeld = s.readHeld ∧ t.tx = s.tx ∧ t.out = s.out ∧
  SameFixed s t

end Sys2Proof.Machine
end

