-- ==== Sys2Proof/Certificates/Slice0/Obligations.lean ====
section
/-! DEFINITION. The statements for the provers. `Legal` is the invariant of Safety.lean. A trace, the output ports, a held
READ_WAIT and the ghost history are the model's own way to hold what the spec describes (log entries 3, 6, 9 and 11). -/

open Sys2Proof Sys2Proof.Machine

/-! ### Encoding -/

/-- Every well-formed operation is read back from its own word. The flag only tells the two POLL rows apart. -/
def Obligations.DecodingAnEncodedInstructionGivesItBack : Prop :=
  ∀ (i : Instr) (ready : Bool), i.wf = true → (i = .pollNoframe → ready = false) → (i = .pollFrame → ready = true) →
    decode ready (encode i) = .ok i

/-- The other direction: a word that decodes has one meaning, and is that operation's own word. Only PUSH has bits in
`wr_data`, and only a 16-bit read at an odd offset decodes to an operation that is not well-formed. -/
def Obligations.EveryDecodedWordIsItsInstructionsOwnWord : Prop :=
  ∀ (ready : Bool) (w : PortWord) (i : Instr), decode ready w = .ok i →
    (∀ en d, w = .rbp en d → en ≠ 0b10#2 → d = 0#8) →
    encode i = w ∧ (i.wf = true ∨ ∃ a : BitVec 4, w = .strd true a ∧ a.toNat % 2 = 1)

/-- R83 and R78: no RX byte, token word, host code or phase is undecodable; only both ring enables together, and a reset
line at 0, are no operation. -/
def Obligations.OnlyBothEnablesOrNoResetFailToDecode : Prop :=
  ∀ (ready : Bool) (w : PortWord),
    (∃ i, decode ready w = .ok i) ∨
    (∃ d, w = .rbp 0b11#2 d ∧ decode ready w = .error .bothEnables) ∨
    (w = .rst 0#1 ∧ decode ready w = .error .resetNotAsserted)

/-- A word laid out in bytes is read back from them, and other bytes of that format are rejected: bytes that are read are
a word's own layout. -/
def Obligations.BytesAndPortWordsAgree : Prop :=
  (∀ w : PortWord, PortWord.ofBytes w.format w.toBytes = .ok w) ∧
  (∀ (f : Format) (bytes : List Byte) (w : PortWord), PortWord.ofBytes f bytes = .ok w → w.format = f ∧ w.toBytes = bytes)

/-- Words written out from the spec's encodings, at least one of each format: R39, R71, R76, R77, R78, R86, R163, R181,
R182. -/
def Obligations.WordsFromTheSpecDecode : Prop :=
  decode false (.rxb8 0x0D#8) = .ok .rxTerm ∧ decode false (.rxb8 0xFF#8) = .ok (.rxData 0xFF#8) ∧
  decode false (.hop3 0b001#3) = .ok .pollNoframe ∧ decode true (.hop3 0b001#3) = .ok .pollFrame ∧
  decode false (.hop3 0b101#3) = .ok (.hopReserved 0b01#2) ∧ decode false (.rbp 0b10#2 0x41#8) = .ok (.push 0x41#8) ∧
  decode false (.seq4 0x4#4) = .ok .fetch3 ∧ decode false (.tok32 0x57462020#32) = .ok .cmdWf ∧
  decode false (.tok32 0x4D202020#32) = .ok .mReserved ∧
  decode false (.tok32 0x4D323433#32) = .ok (.motionPage 0x32#8 0x34#8 0x33#8) ∧
  decode false (.rst 0b1#1) = .ok .reset ∧ decode false (.strd true 0x2#4) = .ok (.stRead true 0x2#4)

/-- In CLASSIFY, the scan of ROM (R84, R135, R160) and the opcode table's token rows (R161, R181, R182, R184) give one and
the same step. That a token row's meaning is the whole CLASSIFY step is the model's reading (log entry 16, DEDUCED). -/
def Obligations.ClassifyIsTheTokensOwnInstruction : Prop :=
  ∀ s : State, s.rom = commandRom → s.phase = Phase.classify →
    exec .classify s = exec (decodeTok s.tok.toWord) s

/-! ### Steps and the invariant -/

/-- A step runs the operation that the next port bits decode to, on the state with the trace's item taken off; and which
bits those are, stimulus by stimulus. A status write is ignored (R37; that it is an item of a trace is log entry 20). On a
`turn` it is the poll context's turn: the micro-step that `phase` names, or a held READ_WAIT's re-test (log entry 9). At the
trace's end it is that turn too, or, in an endless run, a round drawn first: what arrives from outside, then a turn or the
HOST's next request (R250, log entries 3 and 22). -/
def Obligations.StepRunsTheDecodedInstruction : Prop :=
  (∀ (s : State) (w : PortWord) (i : Instr), s.nextWord = some w → decode s.frameReady w = .ok i →
    step s = exec i s.consume) ∧
  (∀ (s : State) (b : Byte) (rest : List Stimulus), s.sched = .rx b :: rest →
    step s = exec (if b = 0x0D#8 then .rxTerm else .rxData b) { s with sched := rest }) ∧
  (∀ (s : State) (op : BitVec 3) (rest : List Stimulus), s.sched = .host op :: rest →
    step s = exec (decodeHop s.frameReady op) { s with sched := rest }) ∧
  (∀ (s : State) (wide : Bool) (a : BitVec 4) (rest : List Stimulus), s.sched = .stRead wide a :: rest →
    step s = exec (.stRead wide a) { s with sched := rest }) ∧
  (∀ (s : State) (a : BitVec 4) (d : BitVec 16) (rest : List Stimulus), s.sched = .stWrite a d :: rest →
    step s = .next { s with sched := rest }) ∧
  (∀ (s : State) (rest : List Stimulus), s.sched = .turn :: rest → ¬(s.readHeld = true ∧ s.phase = Phase.idle) →
    step s = exec (decodeSeq s.phase) { s with sched := rest }) ∧
  (∀ (s : State) (rest : List Stimulus), s.sched = .turn :: rest → s.readHeld = true → s.phase = Phase.idle →
    step s = exec .readWait { s with sched := rest }) ∧
  (∀ s : State, s.sched = [] → s.env.endless = false → ¬(s.readHeld = true ∧ s.phase = Phase.idle) →
    step s = exec (decodeSeq s.phase) s) ∧
  (∀ s : State, s.sched = [] → s.env.endless = false → s.readHeld = true → s.phase = Phase.idle →
    step s = exec .readWait s) ∧
  (∀ s : State, s.sched = [] → s.env.endless = true →
    step s = step s.refill ∧ ∃ arrived : List Stimulus, (∀ x ∈ arrived, fromOutside x = true) ∧
      s.refill.sched = arrived ++
        [if s.phase = Phase.idle ∧ s.readHeld = false ∧ s.env.polls = true
         then .host ((s.env.ahead ++ [0b001#3]).headD 0b000#3) else .turn] ∧
      s.refill = { s with sched := s.refill.sched, env := s.refill.env })

/-- `Legal` holds right after RESET, whatever the parameters are and whatever `tok`, `kind` and the 31 bytes of `ack_buf`
hold, which R41 leaves unspecified: no choice of log entries 1 and 2 matters. `State.reset` is the model's own instance. -/
def Obligations.ResetStateIsLegal : Prop :=
  Legal State.reset ∧ ∀ (c : Config) (tok : Token) (kind : BitVec 2) (buf : List Byte), c.wf → buf.length = 31 →
    Legal { State.resetWith c with tok := tok, kind := kind, ackBuf := buf }

/-- Every step keeps the invariant: legal parameters, ROM, indices, canonical storage, written slots, legal ordinals and
pages, a named phase, a used `kind` once CLASSIFY has written it, the acknowledgment position, the characters of the
token. -/
def Obligations.EveryStepKeepsTheLegalState : Prop :=
  ∀ s t : State, Legal s → step s = .next t → Legal t

/-- R200, R202: no step from a legal state faults, and a step is refused exactly for a HOST request while the poll context
is busy or held, or a 16-bit status read at an odd offset. -/
def Obligations.LegalStatesNeverFaultAndRefuseOnlyBadRequests : Prop :=
  ∀ s : State, Legal s →
    (∀ f, step s ≠ .fault f) ∧
    (∀ r, step s = .refused r ↔
      (r = .hostBusy ∧ s.phase ≠ Phase.idle ∧ ∃ op rest, s.sched = .host op :: rest) ∨
      (r = .hostHolding ∧ s.phase = Phase.idle ∧ s.readHeld = true ∧
        ∃ op rest, s.sched = .host op :: rest ∧ op ≠ 0b010#3) ∨
      (r = .misalignedStatusRead ∧ ∃ (a : BitVec 4) (rest : List Stimulus),
        s.sched = .stRead true a :: rest ∧ a.toNat % 2 = 1))

/-- R29 and R6: no step writes ROM or the parameters; from a legal state ROM therefore stays the 20 entries. -/
def Obligations.RomAndParametersNeverChange : Prop :=
  ∀ s t : State, step s = .next t → t.rom = s.rom ∧ t.cfg = s.cfg

/-! ### Ring Buffer -/

/-- R100, R103, R106: for indices in 0..N-1 the count is the distance modulo N, it is at most N-1, empty is `head == tail`,
full is `count() == N - 1` and the same as `(tail + 1) mod N == head`, and both show in STATUS (R38). An index fits in W
bits (R6; that it is held as a natural is log entry 13). -/
def Obligations.CountIsTheDistanceModuloN : Prop :=
  ∀ s : State, 2 ≤ s.cfg.n → s.head < s.cfg.n → s.tail < s.cfg.n →
    s.count = (s.tail + s.cfg.n - s.head) % s.cfg.n ∧ s.count ≤ s.cfg.n - 1 ∧
    (s.count = 0 ↔ s.head = s.tail) ∧ (s.rbEmpty = true ↔ s.head = s.tail) ∧
    (s.rbFull = true ↔ s.count = s.cfg.n - 1) ∧ (s.count = s.cfg.n - 1 ↔ (s.tail + 1) % s.cfg.n = s.head) ∧
    (s.cfg.n = 2 → (s.rbFull = true ↔ s.count = 1)) ∧
    (s.statusByte 0x6#4).getLsbD 1 = s.rbEmpty ∧ (s.statusByte 0x6#4).getLsbD 2 = s.rbFull ∧
    s.head < 2 ^ s.cfg.indexWidth ∧ s.tail < 2 ^ s.cfg.indexWidth

/-- R100: RB_COUNT completes in every state; it writes nothing but its output. -/
def Obligations.RbCountOutputsTheCount : Prop :=
  ∀ s : State, exec .rbCount s = .next (s.setOut { s.out with ringCount := some s.count }) ∧
    (s.tail ≥ s.head → s.count = s.tail - s.head) ∧ (s.tail < s.head → s.count = s.cfg.n - s.head + s.tail)

/-- R101: PUSH completes; when RB is full it changes nothing but `wr_ok`, else it stores `b` at `tail`, advances `tail` and
answers `wr_ok = 1`. Every slot but the one at the old `tail` reads as before. The ghost count is the model's own. -/
def Obligations.PushStoresAtTailOrDropsWhenFull : Prop :=
  ∀ (s : State) (b : Byte), s.tail < s.cfg.n →
    ∃ t, exec (.push b) s = .next t ∧
      (if s.count = s.cfg.n - 1 then t.out = { s.out with wrOk := some false } ∧ SameRing s t
       else t.out = { s.out with wrOk := some true } ∧ t.head = s.head ∧ t.tail = (s.tail + 1) % s.cfg.n ∧
         Memory.read t.rb s.tail = some b ∧ ∀ a, a ≠ s.tail → Memory.read t.rb a = Memory.read s.rb a) ∧
      SameShared s t ∧ SamePoll s t ∧ t.frameReady = s.frameReady ∧ t.tx = s.tx ∧ SameFixed s t

/-- R102: POP completes; when RB is empty it gives 0xFF and `rd_empty = 1` and moves nothing, else it gives the byte at
`head` and advances `head`. -/
def Obligations.PopTakesTheByteAtHead : Prop :=
  ∀ s : State, Legal s →
    ∃ t, exec .pop s = .next t ∧
      (if s.head = s.tail then t.out = { s.out with rdData := some 0xFF#8, rdEmpty := some true } ∧ t.head = s.head
       else ∃ b, Memory.read s.rb s.head = some b ∧ t.head = (s.head + 1) % s.cfg.n ∧
         t.out = { s.out with rdData := some b, rdEmpty := some false }) ∧
      t.tail = s.tail ∧ SameSlots s t ∧ SameShared s t ∧ SamePoll s t ∧ t.frameReady = s.frameReady ∧ t.tx = s.tx ∧
      SameFixed s t

/-- R56: bytes leave in push order. An accepted PUSH appends to the occupied slots, a refused one leaves them; a POP takes
the oldest. -/
def Obligations.RingIsFirstInFirstOut : Prop :=
  (∀ s : State, Legal s → s.contents.length = s.count) ∧
  (∀ (s t : State) (b : Byte), Legal s → exec (.push b) s = .next t →
    t.contents = if s.count = s.cfg.n - 1 then s.contents else s.contents ++ [b]) ∧
  (∀ s t : State, Legal s → exec .pop s = .next t →
    t.contents = s.contents.tail ∧ t.out.rdData = some (s.contents.headD 0xFF#8))

/-- R107, the capacity law: with count `c`, exactly the first `N-1-c` consecutive PUSHes succeed, and every later one is
refused. -/
def Obligations.ExactlyTheFreeSlotsAcceptPushes : Prop :=
  ∀ (s : State) (bs : List Byte), Legal s →
    ∃ t, pushAll bs s =
        some (List.replicate (min bs.length (s.cfg.n - 1 - s.count)) (some true) ++
          List.replicate (bs.length - (s.cfg.n - 1 - s.count)) (some false), t) ∧
      t.contents = s.contents ++ bs.take (s.cfg.n - 1 - s.count) ∧ t.count = min (s.count + bs.length) (s.cfg.n - 1)

/-- R108, the conservation law, as an invariant of every step, and after RESET whatever the parameters are; the two counts
are ghost state and start again at RESET (log entry 11). -/
def Obligations.CountIsAcceptedPushesLessPops : Prop :=
  (∀ c : Config, Conserved (State.resetWith c)) ∧
  ∀ s t : State, Legal s → Conserved s → step s = .next t → Conserved t

/-! ### PRODUCER -/

/-- R121: the terminator sets `frame_ready`, pushes the sentinel 0xFF if RB is not full, and is echoed as CR LF either way;
nothing of the poll context changes. -/
def Obligations.RxTermSetsReadyPushesSentinelAndEchoes : Prop :=
  ∀ s : State, s.tail < s.cfg.n →
    ∃ t, exec .rxTerm s = .next t ∧ t.frameReady = true ∧ t.tx = s.tx ++ [0x0D#8, 0x0A#8] ∧
      (if s.count = s.cfg.n - 1 then t.tail = s.tail ∧ SameSlots s t
       else t.tail = (s.tail + 1) % s.cfg.n ∧ Memory.read t.rb s.tail = some 0xFF#8 ∧
         ∀ a, a ≠ s.tail → Memory.read t.rb a = Memory.read s.rb a) ∧
      t.out = { s.out with wrOk := some (decide (s.count ≠ s.cfg.n - 1)) } ∧
      t.head = s.head ∧ SameShared s t ∧ SamePoll s t ∧ SameFixed s t

/-- R122: every other byte is pushed raw if RB is not full and echoed verbatim either way; `frame_ready` and the poll
context do not change. -/
def Obligations.RxDataPushesRawByteAndEchoes : Prop :=
  ∀ (s : State) (b : Byte), s.tail < s.cfg.n → b ≠ 0x0D#8 →
    ∃ t, exec (.rxData b) s = .next t ∧ t.frameReady = s.frameReady ∧ t.tx = s.tx ++ [b] ∧
      (if s.count = s.cfg.n - 1 then t.tail = s.tail ∧ SameSlots s t
       else t.tail = (s.tail + 1) % s.cfg.n ∧ Memory.read t.rb s.tail = some b ∧
         ∀ a, a ≠ s.tail → Memory.read t.rb a = Memory.read s.rb a) ∧
      t.out = { s.out with wrOk := some (decide (s.count ≠ s.cfg.n - 1)) } ∧
      t.head = s.head ∧ SameShared s t ∧ SamePoll s t ∧ SameFixed s t

/-- R123: over any stretch of RX events, what the PRODUCER emits is the RX stream with each 0x0D replaced by 0x0D 0x0A,
whether or not RB took the bytes. -/
def Obligations.EchoIsTheReceivedStreamWithCrLf : Prop :=
  ∀ (s : State) (bs : List Byte) (rest : List Stimulus), Legal s → s.sched = bs.map Stimulus.rx ++ rest →
    ∃ t, Host.Core.run core bs.length s = .next t ∧
      t.tx = s.tx ++ bs.flatMap (fun b => if b = 0x0D#8 then [0x0D#8, 0x0A#8] else [b]) ∧ t.sched = rest ∧
      t.head = s.head ∧ SameShared s t ∧ SamePoll s t ∧
      t.frameReady = (s.frameReady || bs.contains 0x0D#8)

/-! ### HOST -/

/-- R77, D22: NOP and each reserved code, in IDLE with no READ_WAIT held, have no effect and no result. -/
def Obligations.NopAndReservedCodesChangeNothing : Prop :=
  ∀ (s : State) (low : BitVec 2), s.phase = Phase.idle → s.readHeld = false →
    exec .nop s = .next s ∧ exec (.hopReserved low) s = .next s

/-- R130: a POLL with no frame ready changes nothing, and it is what `host_op` 001 then is. -/
def Obligations.PollWithNoFrameChangesNothing : Prop :=
  ∀ s : State, s.phase = Phase.idle → s.readHeld = false → s.frameReady = false →
    decode s.frameReady (.hop3 0b001#3) = .ok .pollNoframe ∧ exec .pollNoframe s = .next s

/-- R131: a POLL with a frame ready enters FETCH0 and writes nothing else; only the ghost mark of R201 is the model's. -/
def Obligations.PollWithFrameEntersFetch0 : Prop :=
  ∀ s : State, s.phase = Phase.idle → s.readHeld = false → s.frameReady = true →
    decode s.frameReady (.hop3 0b001#3) = .ok .pollFrame ∧
    exec .pollFrame s = .next { s with phase := 1#4, ghost := { s.ghost with termSincePoll := false } }

/-- R104: READ_WAIT with a byte in RB returns the oldest one and removes it. -/
def Obligations.ReadWaitReturnsTheOldestByte : Prop :=
  ∀ (s : State) (b : Byte) (bs : List Byte), Legal s → s.phase = Phase.idle → s.contents = b :: bs →
    ∃ t, exec .readWait s = .next t ∧ t.out = { s.out with hostRdata := some b, rdData := some b, rdEmpty := some false } ∧
      t.contents = bs ∧ t.head = (s.head + 1) % s.cfg.n ∧ t.tail = s.tail ∧ SameSlots s t ∧ t.readHeld = false ∧
      t.phase = s.phase ∧ SameLine s t ∧ SameShared s t ∧ t.frameReady = s.frameReady ∧ t.tx = s.tx ∧ SameFixed s t

/-- R104: READ_WAIT with RB empty holds: nothing changes but that it is held. -/
def Obligations.ReadWaitHoldsWhileTheRingIsEmpty : Prop :=
  ∀ s : State, s.phase = Phase.idle → s.head = s.tail → exec .readWait s = .next { s with readHeld := true }

/-- R104, R207: a held READ_WAIT is lifted by the PUSH of an RX event, and its next turn returns that byte. -/
def Obligations.HeldReadWaitReturnsThePushedByte : Prop :=
  ∀ (s : State) (b : Byte) (rest : List Stimulus), Legal s → s.readHeld = true → s.contents = [] →
    s.sched = .rx b :: .turn :: rest →
    ∃ t, Host.Core.run core 2 s = .next t ∧ t.out.hostRdata = some (if b = 0x0D#8 then 0xFF#8 else b) ∧
      t.readHeld = false ∧ t.contents = [] ∧ t.sched = rest ∧ t.phase = Phase.idle

/-- R105: COUNT returns `zext_16(count())` and changes nothing else; for a legal state no bit of the count is lost. -/
def Obligations.HostCountReturnsTheCount : Prop :=
  ∀ s : State, s.phase = Phase.idle → s.readHeld = false →
    exec .count s = .next { s with out := { s.out with hostCount := some (BitVec.ofNat 16 s.count) } } ∧
    (Legal s → (BitVec.ofNat 16 s.count).toNat = s.count)

/-- R131: while `phase != IDLE` no HOST operation is accepted. -/
def Obligations.HostIsRefusedDuringADispatchCycle : Prop :=
  ∀ i ∈ hostOps, ∀ s : State, s.phase ≠ Phase.idle → exec i s = .refused .hostBusy

/-! ### CONSUMER -/

/-- R133: FETCHk pops one byte (0xFF when RB is empty) and stores it folded as `tok[k]` when it is no sentinel; the other
characters stay, and the next phase is FETCH(k+1), or DRAIN after k = 3. -/
def Obligations.FetchStoresTheFoldedCharacter : Prop :=
  ∀ p ∈ fetchOps, ∀ s : State, Legal s → s.phase.toNat = p.1 + 1 → fold (s.contents.headD 0xFF#8) ≠ 0xFF#8 →
    ∃ t, exec p.2 s = .next t ∧ t.tok.chars = s.tok.chars.set p.1 (fold (s.contents.headD 0xFF#8)) ∧
      t.phase.toNat = (if p.1 = 3 then 5 else p.1 + 2) ∧ t.contents = s.contents.tail ∧
      t.head = (s.head + 1) % s.cfg.n ∧ t.tail = s.tail ∧ SameSlots s t ∧ SameShared s t ∧
      t.frameReady = s.frameReady ∧ t.kind = s.kind ∧ t.ackBuf = s.ackBuf ∧ t.ackLen = s.ackLen ∧ t.ackI = s.ackI ∧
      t.readHeld = s.readHeld ∧ t.tx = s.tx ∧ SameFixed s t ∧
      t.out = { s.out with rdData := s.contents.head?, rdEmpty := some false }

/-- R133: a popped 0xFF, a stored one or an empty RB alike, ends the token: position k and all after it become spaces and
the next phase is DRAIN. -/
def Obligations.FetchPadsTheTokenAtTheSentinel : Prop :=
  ∀ p ∈ fetchOps, ∀ s : State, Legal s → s.phase.toNat = p.1 + 1 → fold (s.contents.headD 0xFF#8) = 0xFF#8 →
    ∃ t, exec p.2 s = .next t ∧ t.tok.chars = s.tok.chars.take p.1 ++ List.replicate (4 - p.1) 0x20#8 ∧
      t.phase = Phase.drain ∧ t.contents = s.contents.tail ∧
      t.head = (if s.head = s.tail then s.head else (s.head + 1) % s.cfg.n) ∧ t.tail = s.tail ∧ SameSlots s t ∧
      SameShared s t ∧ t.frameReady = s.frameReady ∧ t.kind = s.kind ∧ t.ackBuf = s.ackBuf ∧ t.ackLen = s.ackLen ∧
      t.ackI = s.ackI ∧ t.readHeld = s.readHeld ∧ t.tx = s.tx ∧ SameFixed s t ∧
      t.out = { s.out with rdData := some 0xFF#8, rdEmpty := some (decide (s.head = s.tail)) }

/-- R134: DRAIN pops one byte whatever FETCH found, discards it and goes to CLASSIFY. -/
def Obligations.DrainDiscardsOneByte : Prop :=
  ∀ s : State, Legal s → s.phase = Phase.drain →
    ∃ t, exec .drain s = .next t ∧ t.phase = Phase.classify ∧ t.contents = s.contents.tail ∧
      t.head = (if s.head = s.tail then s.head else (s.head + 1) % s.cfg.n) ∧ t.tail = s.tail ∧ SameSlots s t ∧
      SameShared s t ∧ t.frameReady = s.frameReady ∧ SameLine s t ∧ t.readHeld = s.readHeld ∧ t.tx = s.tx ∧
      SameFixed s t ∧ t.out = { s.out with rdData := some (s.contents.headD 0xFF#8), rdEmpty := some (decide (s.head = s.tail)) }

/-- R135, R160, R161: CLASSIFY on a token that is ROM entry `i`, `i` in 0..18. -/
def Obligations.ClassifyOfATableTokenShiftsTheCommand : Prop :=
  ∀ (s : State) (i : Nat), s.rom = commandRom → s.phase = Phase.classify → i ≤ 18 → s.rom[i]? = some s.tok →
    ∃ t, exec .classify s = .next t ∧ t.prevCmd = s.curCmd ∧ t.curCmd.toNat = i ∧ t.curMp = s.curMp ∧
      t.prevMp = s.prevMp ∧ LineComposed s t 0#2 (matchLine s.tok i) ∧ SameBesideClassify s t

/-- R135, R182: CLASSIFY on a token of the motion-page form, which no table entry has. That a token with 0x61..0x7A or 0xFF
in its last two characters is of this class too, and not NOT_FOUND as R83 says, is log entry 24 (DEDUCED). -/
def Obligations.ClassifyOfAPageTokenShiftsThePage : Prop :=
  ∀ s : State, s.rom = commandRom → s.phase = Phase.classify → s.tok.t0 = 0x4D#8 → isDigit s.tok.t1 = true →
    ∃ t, exec .classify s = .next t ∧ t.curCmd = 19#8 ∧ t.prevCmd = s.prevCmd ∧ t.prevMp = s.curMp ∧
      t.curMp.toNat = pageNumber s.tok ∧ LineComposed s t 1#2 (pageLine s.tok (pageNumber s.tok)) ∧ SameBesideClassify s t

/-- R135, R184: CLASSIFY on any other token, `"M   "` among them. -/
def Obligations.ClassifyOfAnyOtherTokenIsNotFound : Prop :=
  ∀ s : State, s.rom = commandRom → s.phase = Phase.classify → (∀ i ≤ 18, s.rom[i]? ≠ some s.tok) →
    ¬(s.tok.t0 = 0x4D#8 ∧ isDigit s.tok.t1 = true) →
    ∃ t, exec .classify s = .next t ∧ t.curCmd = s.cfg.notFoundOrd ∧ t.prevCmd = s.prevCmd ∧ t.curMp = s.curMp ∧
      t.prevMp = s.prevMp ∧ LineComposed s t 2#2 (unknownLine s.tok) ∧ SameBesideClassify s t

/-- R136: CLEAR clears `frame_ready` whatever it was and goes to ACK; everything else but the ghost history stays. -/
def Obligations.ClearEndsTheFrame : Prop :=
  ∀ s : State, s.phase = Phase.clear →
    ∃ t, exec .clear s = .next t ∧ t.frameReady = false ∧ t.phase = Phase.ack ∧ SameRing s t ∧ SameShared s t ∧
      SameLine s t ∧ t.readHeld = s.readHeld ∧ t.tx = s.tx ∧ t.out = s.out ∧ SameFixed s t ∧
      t.ghost.events = s.ghost.events ++ (if s.ghost.termSincePoll then [.lostReady] else [])

/-- R137: ACK emits `ack_buf[ack_i]`; at the last byte it returns to IDLE with `ack_i` and `ack_len` 0, else `ack_i`
advances. -/
def Obligations.AckEmitsOneByteOfTheLine : Prop :=
  ∀ s : State, Legal s → s.phase = Phase.ack →
    ∃ t b, exec .ack s = .next t ∧ s.ackBuf[s.ackI.toNat]? = some b ∧ t.tx = s.tx ++ [b] ∧
      (if s.ackI.toNat + 1 = s.ackLen.toNat then t.phase = Phase.idle ∧ t.ackI = 0#5 ∧ t.ackLen = 0#5
       else t.phase = Phase.ack ∧ t.ackI.toNat = s.ackI.toNat + 1 ∧ t.ackLen = s.ackLen) ∧
      SameRing s t ∧ SameShared s t ∧ t.frameReady = s.frameReady ∧ t.tok = s.tok ∧ t.kind = s.kind ∧
      t.ackBuf = s.ackBuf ∧ t.readHeld = s.readHeld ∧ t.out = s.out ∧ SameFixed s t

/-- R132: in IDLE the CONSUMER has no step; with nothing left of the trace and no READ_WAIT held the machine waits
unchanged. R250: in an endless run whose HOST polls, with no READ_WAIT ahead, some number of steps leads to a state in which
the HOST's POLL is the next operation. How the environment is held is the model's (log entries 3 and 22). -/
def Obligations.IdleWaitsForAPoll : Prop :=
  (∀ s : State, s.phase = Phase.idle →
    exec .idle s = .next s ∧ (s.sched = [] → s.env.endless = false → s.readHeld = false → step s = .next s)) ∧
  ∀ s : State, Legal s → s.phase = Phase.idle → s.readHeld = false → s.sched = [] → s.env.endless = true →
    s.env.polls = true → 0b010#3 ∉ s.env.ahead →
    ∃ k t, Host.Core.run core k s = .next t ∧ Legal t ∧ t.phase = Phase.idle ∧ t.readHeld = false ∧
      t.nextWord = some (.hop3 0b001#3) ∧ t.env.endless = true ∧ t.env.polls = true

/-- R76: a `phase` of 9..15 faults by name, on the poll context's turn. -/
def Obligations.UnusedPhaseFaults : Prop :=
  ∀ (s : State) (p : BitVec 4), exec (.phaseUnused p) s = .fault .unusedPhase ∧
    (9 ≤ s.phase.toNat → ((s.sched = [] ∧ s.env.endless = false) ∨ ∃ rest, s.sched = .turn :: rest) →
      step s = .fault .unusedPhase)

/-- R138: the only changes of `phase` that an operation makes, RESET apart. -/
def Obligations.PhaseFollowsTheTransitionTable : Prop :=
  ∀ s t : State, Legal s → step s = .next t → t.phase ≠ s.phase →
    (s.nextWord = some (.rst 1#1) ∧ t.phase = Phase.idle) ∨
    (s.phase = Phase.idle ∧ s.frameReady = true ∧ t.phase = Phase.fetch0 ∧ s.nextWord = some (.hop3 0b001#3)) ∨
    (1 ≤ s.phase.toNat ∧ s.phase.toNat ≤ 3 ∧ t.phase = Phase.drain ∧ fold (s.contents.headD 0xFF#8) = 0xFF#8) ∨
    (s.phase = Phase.fetch3 ∧ t.phase = Phase.drain) ∨
    (1 ≤ s.phase.toNat ∧ s.phase.toNat ≤ 3 ∧ t.phase.toNat = s.phase.toNat + 1 ∧
      fold (s.contents.headD 0xFF#8) ≠ 0xFF#8) ∨
    (s.phase = Phase.drain ∧ t.phase = Phase.classify) ∨ (s.phase = Phase.classify ∧ t.phase = Phase.clear) ∨
    (s.phase = Phase.clear ∧ t.phase = Phase.ack) ∨
    (s.phase = Phase.ack ∧ t.phase = Phase.idle ∧ s.ackI.toNat + 1 = s.ackLen.toNat)

/-! ### Command table -/

/-- R162 to R180: each of CMD_STOP, CMD_WF, CMD_WB, CMD_WLT, CMD_WRT, CMD_WLS, CMD_WRS, CMD_WFLS, CMD_WFRS, CMD_WBLS,
CMD_WBRS, CMD_WAL, CMD_WAR, CMD_WFLT, CMD_WFRT, CMD_WBLT, CMD_WBRT, CMD_SIT and CMD_BAL completes in CLASSIFY on its own
token, with its ordinal and its line (R135, R161, R79), and is refused on any other token. That a row runs as the whole CLASSIFY
step is log entry 16, the refusal log entry 10 (both DEDUCED). -/
def Obligations.EachTableCommandRunsOnItsOwnToken : Prop :=
  ∀ r ∈ commandRows, ∀ s : State, s.phase = Phase.classify →
    (s.tok.chars = r.2.1 →
      ∃ t, exec r.1 s = .next t ∧ t.prevCmd = s.curCmd ∧ t.curCmd.toNat = r.2.2 ∧ t.curMp = s.curMp ∧
        t.prevMp = s.prevMp ∧ LineComposed s t 0#2 (r.2.1 ++ textCommand ++ dec r.2.2 ++ [0x0A#8] ++ [0x3E#8, 0x20#8]) ∧
        SameBesideClassify s t) ∧
    (s.tok.chars ≠ r.2.1 → exec r.1 s = .refused .notEnabled)

/-- R181, R135: the token `"M   "` in CLASSIFY is NOT_FOUND, not ordinal 19. That the row runs as the whole CLASSIFY step is
log entry 16 (DEDUCED). -/
def Obligations.LetterMAloneIsNotFound : Prop :=
  ∀ s : State, s.phase = Phase.classify → s.tok = ⟨0x4D#8, 0x20#8, 0x20#8, 0x20#8⟩ →
    ∃ t, exec .mReserved s = .next t ∧ t.curCmd = s.cfg.notFoundOrd ∧ t.prevCmd = s.prevCmd ∧ t.curMp = s.curMp ∧
      t.prevMp = s.prevMp ∧ LineComposed s t 2#2 ([0x4D#8, 0x20#8, 0x20#8, 0x20#8] ++ textUnknown ++ [0x3E#8, 0x20#8]) ∧
      SameBesideClassify s t

/-- R182, R183, R135: the motion-page form with the digit `b`: ordinal 19, the page shift, `prev_cmd` untouched. That the row
runs as the whole CLASSIFY step is log entry 16, and that it does so for `c` and `d` in 0x61..0x7A or 0xFF too, where R83
says NOT_FOUND, is log entry 24 (both DEDUCED). -/
def Obligations.MotionPageRunsOnMAndADigit : Prop :=
  ∀ (s : State) (b c d : Byte), s.phase = Phase.classify → s.tok = ⟨0x4D#8, b, c, d⟩ → isDigit b = true →
    ∃ t, exec (.motionPage b c d) s = .next t ∧ t.curCmd = 19#8 ∧ t.prevCmd = s.prevCmd ∧ t.prevMp = s.curMp ∧
      t.curMp.toNat = pageNumber ⟨0x4D#8, b, c, d⟩ ∧
      LineComposed s t 1#2
        ([0x4D#8, b, c, d] ++ textMotionPage ++ dec (pageNumber ⟨0x4D#8, b, c, d⟩) ++ [0x0A#8] ++ [0x3E#8, 0x20#8]) ∧
      SameBesideClassify s t

/-- R184, R135: any other token: NOT_FOUND_ORD goes to `cur_cmd` and nowhere else. That the row runs as the whole CLASSIFY
step is log entry 16 (DEDUCED). -/
def Obligations.NotFoundRunsOnEveryOtherToken : Prop :=
  ∀ (s : State) (a b c d : Byte), s.phase = Phase.classify → s.tok = ⟨a, b, c, d⟩ → s.rom = commandRom →
    (Instr.notFound a b c d).wf = true →
    ∃ t, exec (.notFound a b c d) s = .next t ∧ t.curCmd = s.cfg.notFoundOrd ∧ t.prevCmd = s.prevCmd ∧
      t.curMp = s.curMp ∧ t.prevMp = s.prevMp ∧
      LineComposed s t 2#2 ([a, b, c, d] ++ textUnknown ++ [0x3E#8, 0x20#8]) ∧ SameBesideClassify s t

/-- R183: the page number is the value of the leading digits of `tok[1..3]`, at most three, and fits in 0..999. -/
def Obligations.PageNumberReadsTheLeadingDigits : Prop :=
  ∀ t : Token,
    pageNumber t = (([t.t1, t.t2, t.t3].takeWhile isDigit).map (fun c => c.toNat - 0x30)).foldl (fun p v => 10 * p + v) 0 ∧
    pageNumber t ≤ 999

/-- R79, R80: a line is 21 or 22, 29 to 31, or 26 bytes long, so it fits in `ack_buf`; and `dec` is the decimal text of
its number. -/
def Obligations.AcknowledgmentLinesHaveTheirLengths : Prop :=
  (∀ (t : Token) (i : Nat), i ≤ 18 → (matchLine t i).length = if i < 10 then 21 else 22) ∧
  (∀ (t : Token) (p : Nat), p ≤ 999 → (pageLine t p).length = if p < 10 then 29 else if p < 100 then 30 else 31) ∧
  (∀ t : Token, (unknownLine t).length = 26) ∧
  (∀ v : Nat, v ≤ 999 → (∀ c ∈ dec v, isDigit c = true) ∧ ((dec v).map digitVal).foldl (fun p d => 10 * p + d) 0 = v ∧
    (dec v = [0x30#8] ∨ (dec v).head? ≠ some 0x30#8))

/-! ### RESET and the status view -/

/-- R230, R41: RESET completes in every state and sets the listed registers; `RB`, `tok`, `kind`, `ack_buf`, ROM and the
emitted bytes stay, and a held READ_WAIT is abandoned. -/
def Obligations.ResetSetsTheListedRegisters : Prop :=
  ∀ s : State, ∃ t, exec .reset s = .next t ∧ t.head = 0 ∧ t.tail = 0 ∧ t.frameReady = false ∧ t.curCmd = 0#8 ∧
    t.prevCmd = 0#8 ∧ t.curMp = 0#10 ∧ t.prevMp = 0#10 ∧ t.phase = Phase.idle ∧ t.ackLen = 0#5 ∧ t.ackI = 0#5 ∧
    t.readHeld = false ∧ SameSlots s t ∧ t.tok = s.tok ∧ t.kind = s.kind ∧ t.ackBuf = s.ackBuf ∧ t.tx = s.tx ∧
    t.out = s.out ∧ SameFixed s t

/-- R233: of the bytes that arrive while RESET is asserted some are delivered after it, in order, and the others are lost;
which ones, the free value says. RESET itself runs on the same state either way. -/
def Obligations.BytesDuringResetAreHeldOrLost : Prop :=
  ∀ (s : State) (arriving : List Byte) (rest : List Stimulus), s.sched = .rst arriving :: rest →
    ∃ (t : State) (kept : List Byte), step s = .next t ∧ kept.Sublist arriving ∧ t.sched = kept.map Stimulus.rx ++ rest ∧
      t.phase = Phase.idle ∧ t.contents = [] ∧ t.frameReady = false ∧ t.tx = s.tx

/-- R37, R38, R51: the bytes of the status view, offset by offset, for a legal state; a 16-bit read is two of them, the
even offset's the low one, which at 0x0 and 0x6 is the model's choice (log entry 23). -/
def Obligations.StatusViewShowsTheRegisters : Prop :=
  ∀ s : State, Legal s →
    s.statusByte 0x0#4 = s.curCmd ∧ s.statusByte 0x1#4 = s.prevCmd ∧
    (s.statusHalf 0x2#4).toNat = s.curMp.toNat ∧ (s.statusHalf 0x4#4).toNat = s.prevMp.toNat ∧
    (s.statusByte 0x6#4).toNat =
      16 * s.phase.toNat + (if s.phase ≠ Phase.idle then 8 else 0) + (if s.count = s.cfg.n - 1 then 4 else 0) +
        (if s.head = s.tail then 2 else 0) + (if s.frameReady then 1 else 0) ∧
    s.statusByte 0x7#4 = 0#8 ∧ (s.statusHalf 0x8#4).toNat = s.count ∧ (s.statusHalf 0xA#4).toNat = s.head ∧
    (s.statusHalf 0xC#4).toNat = s.tail ∧ s.statusHalf 0xE#4 = 0#16 ∧
    (∀ a : BitVec 4, a.toNat % 2 = 0 →
      (s.statusHalf a).toNat = (s.statusByte a).toNat + 256 * (s.statusByte (a + 1#4)).toNat)

/-- R39, R54: a status read completes at every offset for 8 bits and at every even one for 16, writes nothing but its
output, and read again it gives the same. -/
def Obligations.StatusReadHasNoSideEffect : Prop :=
  ∀ (s : State) (a : BitVec 4),
    exec (.stRead false a) s = .next { s with out := { s.out with stData := some (.byte (s.statusByte a)) } } ∧
    (a.toNat % 2 = 0 →
      exec (.stRead true a) s = .next { s with out := { s.out with stData := some (.half (s.statusHalf a)) } }) ∧
    ∀ (wide : Bool) (t : State), exec (.stRead wide a) s = .next t → exec (.stRead wide a) t = .next t

/-- R52: a 16-bit status read at an odd offset is refused. -/
def Obligations.OddWideStatusReadIsRefused : Prop :=
  ∀ (s : State) (a : BitVec 4), a.toNat % 2 = 1 → exec (.stRead true a) s = .refused .misalignedStatusRead

/-! ### Rules about the whole machine -/

/-- R36: who writes what, over every operation, RESET standing outside both contexts. READ_WAIT, which pops, is the HOST's
(R104); the held flag is the model's (log entry 9). -/
def Obligations.EachFieldHasItsOwnWriter : Prop :=
  ∀ (i : Instr) (s t : State), exec i s = .next t →
    (¬SameSlots s t → i = .rxTerm ∨ (∃ b, i = .rxData b) ∨ ∃ b, i = .push b) ∧
    (t.tail ≠ s.tail → i = .rxTerm ∨ (∃ b, i = .rxData b) ∨ (∃ b, i = .push b) ∨ i = .reset) ∧
    (t.head ≠ s.head → i ∈ [.fetch0, .fetch1, .fetch2, .fetch3, .drain, .readWait, .pop, .reset]) ∧
    (t.frameReady ≠ s.frameReady → i = .rxTerm ∨ i = .clear ∨ i = .reset) ∧
    (¬SameShared s t → isTokenClass i = true ∨ i = .reset) ∧
    (t.phase ≠ s.phase →
      i ∈ [.pollFrame, .fetch0, .fetch1, .fetch2, .fetch3, .drain, .clear, .ack, .reset] ∨ isTokenClass i = true) ∧
    (t.tok ≠ s.tok → i ∈ [.fetch0, .fetch1, .fetch2, .fetch3]) ∧
    (t.kind ≠ s.kind → isTokenClass i = true) ∧
    (t.ackBuf ≠ s.ackBuf → isTokenClass i = true) ∧
    (t.ackLen ≠ s.ackLen → isTokenClass i = true ∨ i = .ack ∨ i = .reset) ∧
    (t.ackI ≠ s.ackI → isTokenClass i = true ∨ i = .ack ∨ i = .reset) ∧
    (t.readHeld ≠ s.readHeld → i = .readWait ∨ i = .reset) ∧
    (t.tx ≠ s.tx → i = .rxTerm ∨ (∃ b, i = .rxData b) ∨ i = .ack)

/-- R25: `frame_ready` is "set only by the interrupt context, cleared only by the poll context": by RX_TERM, and by CLEAR
or RESET. -/
def Obligations.FrameReadyIsSetByRxTermAndClearedByClear : Prop :=
  ∀ (i : Instr) (s t : State), exec i s = .next t →
    (s.frameReady = false → t.frameReady = true → i = .rxTerm) ∧
    (s.frameReady = true → t.frameReady = false → i = .clear ∨ i = .reset)

/-- R58: bytes already on the TX stream are never retracted or reordered, RESET included. -/
def Obligations.TheTxStreamOnlyGrows : Prop :=
  ∀ s t : State, step s = .next t → ∃ bs, t.tx = s.tx ++ bs ∧ bs.length ≤ 2

/-- R40, R34: no step reads the ghost history or the output ports. Two states that differ there only step alike. -/
def Obligations.GhostAndOutputsInfluenceNothing : Prop :=
  ∀ (s : State) (g : Ghost) (o : PortOut),
    (∀ t, step s = .next t → ∃ g' o', step { s with ghost := g, out := o } = .next { t with ghost := g', out := o' }) ∧
    (∀ f, step s = .fault f → step { s with ghost := g, out := o } = .fault f) ∧
    (∀ r, step s = .refused r → step { s with ghost := g, out := o } = .refused r)

/-! ### Dispatch cycles -/

/-- R133, R134, R140: FETCH0..FETCH3 and DRAIN, with no RX event between, build the normalized token of the bytes in RB and
remove exactly the bytes R140 counts. -/
def Obligations.FetchesAndDrainNormalizeTheFrame : Prop :=
  ∀ s : State, Legal s → s.phase = Phase.fetch0 → s.sched = [] → s.env.endless = false →
    ∃ t, Host.Core.run core (popsOf s.contents) s = .next t ∧ t.phase = Phase.classify ∧ t.tok = tokenOf s.contents ∧
      t.contents = s.contents.drop (popsOf s.contents) ∧ t.tail = s.tail ∧ SameShared s t ∧
      t.frameReady = s.frameReady ∧ t.tx = s.tx

/-- R131 to R137: from a POLL with a frame ready, with no RX event between, the cycle ends in IDLE within 38 CONSUMER steps.
It has classified the normalized token, cleared `frame_ready`, emitted exactly that class's line and removed the bytes R140
counts. -/
def Obligations.DispatchCycleClassifiesTheFrame : Prop :=
  ∀ s : State, Legal s → s.phase = Phase.idle → s.readHeld = false → s.frameReady = true → s.sched = [.host 0b001#3] →
    s.env.endless = false →
    ∃ k t, k ≤ 38 ∧ Host.Core.run core (k + 1) s = .next t ∧ t.phase = Phase.idle ∧ t.frameReady = false ∧
      t.contents = s.contents.drop (popsOf s.contents) ∧
      t.tx = s.tx ++ lineOf s.rom (tokenOf s.contents) ∧
      (match classOf s.rom (tokenOf s.contents) with
       | .table i => t.curCmd.toNat = i ∧ t.prevCmd = s.curCmd ∧ t.curMp = s.curMp ∧ t.prevMp = s.prevMp
       | .page => t.curCmd = 19#8 ∧ t.prevCmd = s.prevCmd ∧ t.curMp.toNat = pageNumber (tokenOf s.contents) ∧
           t.prevMp = s.curMp
       | .unknown => t.curCmd = s.cfg.notFoundOrd ∧ t.prevCmd = s.prevCmd ∧ t.curMp = s.curMp ∧ t.prevMp = s.prevMp)

/-- R132, R142: in a cycle each turn of the poll context brings its end nearer, and no RX event, status read or status write
puts it off; at most 38 turns are left, and none only in IDLE. -/
def Obligations.EachTurnBringsTheCyclesEndNearer : Prop :=
  ∀ s : State, Legal s → s.phase ≠ Phase.idle →
    turnsLeft s ≤ 38 ∧ 0 < turnsLeft s ∧
    (((s.sched = [] ∧ s.env.endless = false) ∨ ∃ rest, s.sched = .turn :: rest) →
      ∃ t, step s = .next t ∧ turnsLeft t < turnsLeft s) ∧
    (∀ b rest, s.sched = .rx b :: rest → ∃ t, step s = .next t ∧ turnsLeft t = turnsLeft s ∧ t.phase = s.phase) ∧
    (∀ a rest, s.sched = .stRead false a :: rest → ∃ t, step s = .next t ∧ turnsLeft t = turnsLeft s ∧ t.phase = s.phase) ∧
    (∀ a rest, s.sched = .stRead true a :: rest → a.toNat % 2 = 0 →
      ∃ t, step s = .next t ∧ turnsLeft t = turnsLeft s ∧ t.phase = s.phase) ∧
    (∀ a d rest, s.sched = .stWrite a d :: rest →
      ∃ t, step s = .next t ∧ turnsLeft t = turnsLeft s ∧ t.phase = s.phase)

/-- R132, R142, R250: whatever RX events, status reads and writes are interleaved, a cycle is over once the trace has given
the poll context 38 turns; and in an endless run every cycle ends, whatever arrives (log entry 22). -/
def Obligations.ACycleEndsWithin38TurnsUnderAnyInterleaving : Prop :=
  (∀ (s : State) (tr rest : List Stimulus), Legal s → s.phase ≠ Phase.idle → s.sched = tr ++ rest →
    (∀ x ∈ tr, x = .turn ∨ fromOutside x = true) → 38 ≤ tr.count .turn →
    ∃ k t, k ≤ tr.length ∧ Host.Core.run core k s = .next t ∧ t.phase = Phase.idle) ∧
  ∀ s : State, Legal s → s.phase ≠ Phase.idle → s.sched = [] → s.env.endless = true →
    ∃ k t, Host.Core.run core k s = .next t ∧ Legal t ∧ t.phase = Phase.idle ∧ t.env.endless = true ∧
      t.env.polls = s.env.polls

/-- R136, R234. A terminator that arrives at any point from FETCH0 to CLEAR is lost as a signal: whatever RX events (more
terminators among them) come before CLEAR, the cycle enters ACK with `frame_ready` 0. With no other RX event its sentinel,
pushed unless RB was full, then is the last byte of RB, from which the cycle's own later FETCH and DRAIN steps have taken
`n` bytes (none once DRAIN is over). One that arrives in ACK is kept, whatever turns and RX events follow. -/
def Obligations.TerminatorBeforeClearIsLostAndInAckKept : Prop :=
  (∀ (s : State) (tr rest : List Stimulus), Legal s → 1 ≤ s.phase.toNat → s.phase.toNat ≤ 7 →
    s.sched = .rx 0x0D#8 :: (tr ++ rest) → (∀ x ∈ tr, x = .turn ∨ ∃ b, x = .rx b) →
    8 - s.phase.toNat ≤ tr.count .turn →
    ∃ k t, k ≤ tr.length ∧ Host.Core.run core (k + 1) s = .next t ∧ t.phase = Phase.ack ∧ t.frameReady = false ∧
      t.sched = tr.drop k ++ rest) ∧
  (∀ (s : State) (rest : List Stimulus), Legal s → 1 ≤ s.phase.toNat → s.phase.toNat ≤ 7 →
    s.sched = .rx 0x0D#8 :: (List.replicate (8 - s.phase.toNat) .turn ++ rest) →
    ∃ k n t, k ≤ 8 - s.phase.toNat ∧ n ≤ 6 - s.phase.toNat ∧ Host.Core.run core (k + 1) s = .next t ∧
      t.phase = Phase.ack ∧ t.frameReady = false ∧
      t.contents = (s.contents ++ if s.count = s.cfg.n - 1 then [] else [0xFF#8]).drop n) ∧
  (∀ (s : State) (tr rest : List Stimulus), Legal s → s.phase = Phase.ack →
    s.sched = .rx 0x0D#8 :: (tr ++ rest) → (∀ x ∈ tr, x = .turn ∨ ∃ b, x = .rx b) →
    ∃ t, Host.Core.run core (tr.length + 1) s = .next t ∧ t.frameReady = true ∧ t.sched = rest)
end

