-- ==== Sys2Proof/Laws/State.lean ====
section
/-! SUPPORT. One lemma per field of the state per named update: what each update sets, and that it leaves the rest. -/

namespace Sys2Proof.Machine

variable (s : State)

/-! ### emit -/

@[simp] theorem State.emit_cfg (bs : List Byte) : (s.emit bs).cfg = s.cfg := rfl
@[simp] theorem State.emit_curCmd (bs : List Byte) : (s.emit bs).curCmd = s.curCmd := rfl
@[simp] theorem State.emit_prevCmd (bs : List Byte) : (s.emit bs).prevCmd = s.prevCmd := rfl
@[simp] theorem State.emit_curMp (bs : List Byte) : (s.emit bs).curMp = s.curMp := rfl
@[simp] theorem State.emit_prevMp (bs : List Byte) : (s.emit bs).prevMp = s.prevMp := rfl
@[simp] theorem State.emit_frameReady (bs : List Byte) : (s.emit bs).frameReady = s.frameReady := rfl
@[simp] theorem State.emit_head (bs : List Byte) : (s.emit bs).head = s.head := rfl
@[simp] theorem State.emit_tail (bs : List Byte) : (s.emit bs).tail = s.tail := rfl
@[simp] theorem State.emit_rb (bs : List Byte) : (s.emit bs).rb = s.rb := rfl
@[simp] theorem State.emit_rom (bs : List Byte) : (s.emit bs).rom = s.rom := rfl
@[simp] theorem State.emit_phase (bs : List Byte) : (s.emit bs).phase = s.phase := rfl
@[simp] theorem State.emit_tok (bs : List Byte) : (s.emit bs).tok = s.tok := rfl
@[simp] theorem State.emit_kind (bs : List Byte) : (s.emit bs).kind = s.kind := rfl
@[simp] theorem State.emit_ackBuf (bs : List Byte) : (s.emit bs).ackBuf = s.ackBuf := rfl
@[simp] theorem State.emit_ackLen (bs : List Byte) : (s.emit bs).ackLen = s.ackLen := rfl
@[simp] theorem State.emit_ackI (bs : List Byte) : (s.emit bs).ackI = s.ackI := rfl
@[simp] theorem State.emit_readHeld (bs : List Byte) : (s.emit bs).readHeld = s.readHeld := rfl
@[simp] theorem State.emit_tx (bs : List Byte) : (s.emit bs).tx = s.tx ++ bs := rfl
@[simp] theorem State.emit_sched (bs : List Byte) : (s.emit bs).sched = s.sched := rfl
@[simp] theorem State.emit_out (bs : List Byte) : (s.emit bs).out = s.out := rfl
@[simp] theorem State.emit_ghost (bs : List Byte) : (s.emit bs).ghost = s.ghost := rfl
@[simp] theorem State.emit_draws (bs : List Byte) : (s.emit bs).draws = s.draws := rfl
@[simp] theorem State.emit_env (bs : List Byte) : (s.emit bs).env = s.env := rfl

/-! ### setPhase -/

@[simp] theorem State.setPhase_cfg (p : BitVec 4) : (s.setPhase p).cfg = s.cfg := rfl
@[simp] theorem State.setPhase_curCmd (p : BitVec 4) : (s.setPhase p).curCmd = s.curCmd := rfl
@[simp] theorem State.setPhase_prevCmd (p : BitVec 4) : (s.setPhase p).prevCmd = s.prevCmd := rfl
@[simp] theorem State.setPhase_curMp (p : BitVec 4) : (s.setPhase p).curMp = s.curMp := rfl
@[simp] theorem State.setPhase_prevMp (p : BitVec 4) : (s.setPhase p).prevMp = s.prevMp := rfl
@[simp] theorem State.setPhase_frameReady (p : BitVec 4) : (s.setPhase p).frameReady = s.frameReady := rfl
@[simp] theorem State.setPhase_head (p : BitVec 4) : (s.setPhase p).head = s.head := rfl
@[simp] theorem State.setPhase_tail (p : BitVec 4) : (s.setPhase p).tail = s.tail := rfl
@[simp] theorem State.setPhase_rb (p : BitVec 4) : (s.setPhase p).rb = s.rb := rfl
@[simp] theorem State.setPhase_rom (p : BitVec 4) : (s.setPhase p).rom = s.rom := rfl
@[simp] theorem State.setPhase_phase (p : BitVec 4) : (s.setPhase p).phase = p := rfl
@[simp] theorem State.setPhase_tok (p : BitVec 4) : (s.setPhase p).tok = s.tok := rfl
@[simp] theorem State.setPhase_kind (p : BitVec 4) : (s.setPhase p).kind = s.kind := rfl
@[simp] theorem State.setPhase_ackBuf (p : BitVec 4) : (s.setPhase p).ackBuf = s.ackBuf := rfl
@[simp] theorem State.setPhase_ackLen (p : BitVec 4) : (s.setPhase p).ackLen = s.ackLen := rfl
@[simp] theorem State.setPhase_ackI (p : BitVec 4) : (s.setPhase p).ackI = s.ackI := rfl
@[simp] theorem State.setPhase_readHeld (p : BitVec 4) : (s.setPhase p).readHeld = s.readHeld := rfl
@[simp] theorem State.setPhase_tx (p : BitVec 4) : (s.setPhase p).tx = s.tx := rfl
@[simp] theorem State.setPhase_sched (p : BitVec 4) : (s.setPhase p).sched = s.sched := rfl
@[simp] theorem State.setPhase_out (p : BitVec 4) : (s.setPhase p).out = s.out := rfl
@[simp] theorem State.setPhase_ghost (p : BitVec 4) : (s.setPhase p).ghost = s.ghost := rfl
@[simp] theorem State.setPhase_draws (p : BitVec 4) : (s.setPhase p).draws = s.draws := rfl
@[simp] theorem State.setPhase_env (p : BitVec 4) : (s.setPhase p).env = s.env := rfl

/-! ### setReady -/

@[simp] theorem State.setReady_cfg (b : Bool) : (s.setReady b).cfg = s.cfg := rfl
@[simp] theorem State.setReady_curCmd (b : Bool) : (s.setReady b).curCmd = s.curCmd := rfl
@[simp] theorem State.setReady_prevCmd (b : Bool) : (s.setReady b).prevCmd = s.prevCmd := rfl
@[simp] theorem State.setReady_curMp (b : Bool) : (s.setReady b).curMp = s.curMp := rfl
@[simp] theorem State.setReady_prevMp (b : Bool) : (s.setReady b).prevMp = s.prevMp := rfl
@[simp] theorem State.setReady_frameReady (b : Bool) : (s.setReady b).frameReady = b := rfl
@[simp] theorem State.setReady_head (b : Bool) : (s.setReady b).head = s.head := rfl
@[simp] theorem State.setReady_tail (b : Bool) : (s.setReady b).tail = s.tail := rfl
@[simp] theorem State.setReady_rb (b : Bool) : (s.setReady b).rb = s.rb := rfl
@[simp] theorem State.setReady_rom (b : Bool) : (s.setReady b).rom = s.rom := rfl
@[simp] theorem State.setReady_phase (b : Bool) : (s.setReady b).phase = s.phase := rfl
@[simp] theorem State.setReady_tok (b : Bool) : (s.setReady b).tok = s.tok := rfl
@[simp] theorem State.setReady_kind (b : Bool) : (s.setReady b).kind = s.kind := rfl
@[simp] theorem State.setReady_ackBuf (b : Bool) : (s.setReady b).ackBuf = s.ackBuf := rfl
@[simp] theorem State.setReady_ackLen (b : Bool) : (s.setReady b).ackLen = s.ackLen := rfl
@[simp] theorem State.setReady_ackI (b : Bool) : (s.setReady b).ackI = s.ackI := rfl
@[simp] theorem State.setReady_readHeld (b : Bool) : (s.setReady b).readHeld = s.readHeld := rfl
@[simp] theorem State.setReady_tx (b : Bool) : (s.setReady b).tx = s.tx := rfl
@[simp] theorem State.setReady_sched (b : Bool) : (s.setReady b).sched = s.sched := rfl
@[simp] theorem State.setReady_out (b : Bool) : (s.setReady b).out = s.out := rfl
@[simp] theorem State.setReady_ghost (b : Bool) : (s.setReady b).ghost = s.ghost := rfl
@[simp] theorem State.setReady_draws (b : Bool) : (s.setReady b).draws = s.draws := rfl
@[simp] theorem State.setReady_env (b : Bool) : (s.setReady b).env = s.env := rfl

/-! ### setHead -/

@[simp] theorem State.setHead_cfg (h : Nat) : (s.setHead h).cfg = s.cfg := rfl
@[simp] theorem State.setHead_curCmd (h : Nat) : (s.setHead h).curCmd = s.curCmd := rfl
@[simp] theorem State.setHead_prevCmd (h : Nat) : (s.setHead h).prevCmd = s.prevCmd := rfl
@[simp] theorem State.setHead_curMp (h : Nat) : (s.setHead h).curMp = s.curMp := rfl
@[simp] theorem State.setHead_prevMp (h : Nat) : (s.setHead h).prevMp = s.prevMp := rfl
@[simp] theorem State.setHead_frameReady (h : Nat) : (s.setHead h).frameReady = s.frameReady := rfl
@[simp] theorem State.setHead_head (h : Nat) : (s.setHead h).head = h := rfl
@[simp] theorem State.setHead_tail (h : Nat) : (s.setHead h).tail = s.tail := rfl
@[simp] theorem State.setHead_rb (h : Nat) : (s.setHead h).rb = s.rb := rfl
@[simp] theorem State.setHead_rom (h : Nat) : (s.setHead h).rom = s.rom := rfl
@[simp] theorem State.setHead_phase (h : Nat) : (s.setHead h).phase = s.phase := rfl
@[simp] theorem State.setHead_tok (h : Nat) : (s.setHead h).tok = s.tok := rfl
@[simp] theorem State.setHead_kind (h : Nat) : (s.setHead h).kind = s.kind := rfl
@[simp] theorem State.setHead_ackBuf (h : Nat) : (s.setHead h).ackBuf = s.ackBuf := rfl
@[simp] theorem State.setHead_ackLen (h : Nat) : (s.setHead h).ackLen = s.ackLen := rfl
@[simp] theorem State.setHead_ackI (h : Nat) : (s.setHead h).ackI = s.ackI := rfl
@[simp] theorem State.setHead_readHeld (h : Nat) : (s.setHead h).readHeld = s.readHeld := rfl
@[simp] theorem State.setHead_tx (h : Nat) : (s.setHead h).tx = s.tx := rfl
@[simp] theorem State.setHead_sched (h : Nat) : (s.setHead h).sched = s.sched := rfl
@[simp] theorem State.setHead_out (h : Nat) : (s.setHead h).out = s.out := rfl
@[simp] theorem State.setHead_ghost (h : Nat) : (s.setHead h).ghost = s.ghost := rfl
@[simp] theorem State.setHead_draws (h : Nat) : (s.setHead h).draws = s.draws := rfl
@[simp] theorem State.setHead_env (h : Nat) : (s.setHead h).env = s.env := rfl

/-! ### setTail -/

@[simp] theorem State.setTail_cfg (x : Nat) : (s.setTail x).cfg = s.cfg := rfl
@[simp] theorem State.setTail_curCmd (x : Nat) : (s.setTail x).curCmd = s.curCmd := rfl
@[simp] theorem State.setTail_prevCmd (x : Nat) : (s.setTail x).prevCmd = s.prevCmd := rfl
@[simp] theorem State.setTail_curMp (x : Nat) : (s.setTail x).curMp = s.curMp := rfl
@[simp] theorem State.setTail_prevMp (x : Nat) : (s.setTail x).prevMp = s.prevMp := rfl
@[simp] theorem State.setTail_frameReady (x : Nat) : (s.setTail x).frameReady = s.frameReady := rfl
@[simp] theorem State.setTail_head (x : Nat) : (s.setTail x).head = s.head := rfl
@[simp] theorem State.setTail_tail (x : Nat) : (s.setTail x).tail = x := rfl
@[simp] theorem State.setTail_rb (x : Nat) : (s.setTail x).rb = s.rb := rfl
@[simp] theorem State.setTail_rom (x : Nat) : (s.setTail x).rom = s.rom := rfl
@[simp] theorem State.setTail_phase (x : Nat) : (s.setTail x).phase = s.phase := rfl
@[simp] theorem State.setTail_tok (x : Nat) : (s.setTail x).tok = s.tok := rfl
@[simp] theorem State.setTail_kind (x : Nat) : (s.setTail x).kind = s.kind := rfl
@[simp] theorem State.setTail_ackBuf (x : Nat) : (s.setTail x).ackBuf = s.ackBuf := rfl
@[simp] theorem State.setTail_ackLen (x : Nat) : (s.setTail x).ackLen = s.ackLen := rfl
@[simp] theorem State.setTail_ackI (x : Nat) : (s.setTail x).ackI = s.ackI := rfl
@[simp] theorem State.setTail_readHeld (x : Nat) : (s.setTail x).readHeld = s.readHeld := rfl
@[simp] theorem State.setTail_tx (x : Nat) : (s.setTail x).tx = s.tx := rfl
@[simp] theorem State.setTail_sched (x : Nat) : (s.setTail x).sched = s.sched := rfl
@[simp] theorem State.setTail_out (x : Nat) : (s.setTail x).out = s.out := rfl
@[simp] theorem State.setTail_ghost (x : Nat) : (s.setTail x).ghost = s.ghost := rfl
@[simp] theorem State.setTail_draws (x : Nat) : (s.setTail x).draws = s.draws := rfl
@[simp] theorem State.setTail_env (x : Nat) : (s.setTail x).env = s.env := rfl

/-! ### setRb -/

@[simp] theorem State.setRb_cfg (m : List Host.Cell) : (s.setRb m).cfg = s.cfg := rfl
@[simp] theorem State.setRb_curCmd (m : List Host.Cell) : (s.setRb m).curCmd = s.curCmd := rfl
@[simp] theorem State.setRb_prevCmd (m : List Host.Cell) : (s.setRb m).prevCmd = s.prevCmd := rfl
@[simp] theorem State.setRb_curMp (m : List Host.Cell) : (s.setRb m).curMp = s.curMp := rfl
@[simp] theorem State.setRb_prevMp (m : List Host.Cell) : (s.setRb m).prevMp = s.prevMp := rfl
@[simp] theorem State.setRb_frameReady (m : List Host.Cell) : (s.setRb m).frameReady = s.frameReady := rfl
@[simp] theorem State.setRb_head (m : List Host.Cell) : (s.setRb m).head = s.head := rfl
@[simp] theorem State.setRb_tail (m : List Host.Cell) : (s.setRb m).tail = s.tail := rfl
@[simp] theorem State.setRb_rb (m : List Host.Cell) : (s.setRb m).rb = m := rfl
@[simp] theorem State.setRb_rom (m : List Host.Cell) : (s.setRb m).rom = s.rom := rfl
@[simp] theorem State.setRb_phase (m : List Host.Cell) : (s.setRb m).phase = s.phase := rfl
@[simp] theorem State.setRb_tok (m : List Host.Cell) : (s.setRb m).tok = s.tok := rfl
@[simp] theorem State.setRb_kind (m : List Host.Cell) : (s.setRb m).kind = s.kind := rfl
@[simp] theorem State.setRb_ackBuf (m : List Host.Cell) : (s.setRb m).ackBuf = s.ackBuf := rfl
@[simp] theorem State.setRb_ackLen (m : List Host.Cell) : (s.setRb m).ackLen = s.ackLen := rfl
@[simp] theorem State.setRb_ackI (m : List Host.Cell) : (s.setRb m).ackI = s.ackI := rfl
@[simp] theorem State.setRb_readHeld (m : List Host.Cell) : (s.setRb m).readHeld = s.readHeld := rfl
@[simp] theorem State.setRb_tx (m : List Host.Cell) : (s.setRb m).tx = s.tx := rfl
@[simp] theorem State.setRb_sched (m : List Host.Cell) : (s.setRb m).sched = s.sched := rfl
@[simp] theorem State.setRb_out (m : List Host.Cell) : (s.setRb m).out = s.out := rfl
@[simp] theorem State.setRb_ghost (m : List Host.Cell) : (s.setRb m).ghost = s.ghost := rfl
@[simp] theorem State.setRb_draws (m : List Host.Cell) : (s.setRb m).draws = s.draws := rfl
@[simp] theorem State.setRb_env (m : List Host.Cell) : (s.setRb m).env = s.env := rfl

/-! ### setTok -/

@[simp] theorem State.setTok_cfg (x : Token) : (s.setTok x).cfg = s.cfg := rfl
@[simp] theorem State.setTok_curCmd (x : Token) : (s.setTok x).curCmd = s.curCmd := rfl
@[simp] theorem State.setTok_prevCmd (x : Token) : (s.setTok x).prevCmd = s.prevCmd := rfl
@[simp] theorem State.setTok_curMp (x : Token) : (s.setTok x).curMp = s.curMp := rfl
@[simp] theorem State.setTok_prevMp (x : Token) : (s.setTok x).prevMp = s.prevMp := rfl
@[simp] theorem State.setTok_frameReady (x : Token) : (s.setTok x).frameReady = s.frameReady := rfl
@[simp] theorem State.setTok_head (x : Token) : (s.setTok x).head = s.head := rfl
@[simp] theorem State.setTok_tail (x : Token) : (s.setTok x).tail = s.tail := rfl
@[simp] theorem State.setTok_rb (x : Token) : (s.setTok x).rb = s.rb := rfl
@[simp] theorem State.setTok_rom (x : Token) : (s.setTok x).rom = s.rom := rfl
@[simp] theorem State.setTok_phase (x : Token) : (s.setTok x).phase = s.phase := rfl
@[simp] theorem State.setTok_tok (x : Token) : (s.setTok x).tok = x := rfl
@[simp] theorem State.setTok_kind (x : Token) : (s.setTok x).kind = s.kind := rfl
@[simp] theorem State.setTok_ackBuf (x : Token) : (s.setTok x).ackBuf = s.ackBuf := rfl
@[simp] theorem State.setTok_ackLen (x : Token) : (s.setTok x).ackLen = s.ackLen := rfl
@[simp] theorem State.setTok_ackI (x : Token) : (s.setTok x).ackI = s.ackI := rfl
@[simp] theorem State.setTok_readHeld (x : Token) : (s.setTok x).readHeld = s.readHeld := rfl
@[simp] theorem State.setTok_tx (x : Token) : (s.setTok x).tx = s.tx := rfl
@[simp] theorem State.setTok_sched (x : Token) : (s.setTok x).sched = s.sched := rfl
@[simp] theorem State.setTok_out (x : Token) : (s.setTok x).out = s.out := rfl
@[simp] theorem State.setTok_ghost (x : Token) : (s.setTok x).ghost = s.ghost := rfl
@[simp] theorem State.setTok_draws (x : Token) : (s.setTok x).draws = s.draws := rfl
@[simp] theorem State.setTok_env (x : Token) : (s.setTok x).env = s.env := rfl

/-! ### setOut -/

@[simp] theorem State.setOut_cfg (o : PortOut) : (s.setOut o).cfg = s.cfg := rfl
@[simp] theorem State.setOut_curCmd (o : PortOut) : (s.setOut o).curCmd = s.curCmd := rfl
@[simp] theorem State.setOut_prevCmd (o : PortOut) : (s.setOut o).prevCmd = s.prevCmd := rfl
@[simp] theorem State.setOut_curMp (o : PortOut) : (s.setOut o).curMp = s.curMp := rfl
@[simp] theorem State.setOut_prevMp (o : PortOut) : (s.setOut o).prevMp = s.prevMp := rfl
@[simp] theorem State.setOut_frameReady (o : PortOut) : (s.setOut o).frameReady = s.frameReady := rfl
@[simp] theorem State.setOut_head (o : PortOut) : (s.setOut o).head = s.head := rfl
@[simp] theorem State.setOut_tail (o : PortOut) : (s.setOut o).tail = s.tail := rfl
@[simp] theorem State.setOut_rb (o : PortOut) : (s.setOut o).rb = s.rb := rfl
@[simp] theorem State.setOut_rom (o : PortOut) : (s.setOut o).rom = s.rom := rfl
@[simp] theorem State.setOut_phase (o : PortOut) : (s.setOut o).phase = s.phase := rfl
@[simp] theorem State.setOut_tok (o : PortOut) : (s.setOut o).tok = s.tok := rfl
@[simp] theorem State.setOut_kind (o : PortOut) : (s.setOut o).kind = s.kind := rfl
@[simp] theorem State.setOut_ackBuf (o : PortOut) : (s.setOut o).ackBuf = s.ackBuf := rfl
@[simp] theorem State.setOut_ackLen (o : PortOut) : (s.setOut o).ackLen = s.ackLen := rfl
@[simp] theorem State.setOut_ackI (o : PortOut) : (s.setOut o).ackI = s.ackI := rfl
@[simp] theorem State.setOut_readHeld (o : PortOut) : (s.setOut o).readHeld = s.readHeld := rfl
@[simp] theorem State.setOut_tx (o : PortOut) : (s.setOut o).tx = s.tx := rfl
@[simp] theorem State.setOut_sched (o : PortOut) : (s.setOut o).sched = s.sched := rfl
@[simp] theorem State.setOut_out (o : PortOut) : (s.setOut o).out = o := rfl
@[simp] theorem State.setOut_ghost (o : PortOut) : (s.setOut o).ghost = s.ghost := rfl
@[simp] theorem State.setOut_draws (o : PortOut) : (s.setOut o).draws = s.draws := rfl
@[simp] theorem State.setOut_env (o : PortOut) : (s.setOut o).env = s.env := rfl

/-! ### setGhost -/

@[simp] theorem State.setGhost_cfg (g : Ghost) : (s.setGhost g).cfg = s.cfg := rfl
@[simp] theorem State.setGhost_curCmd (g : Ghost) : (s.setGhost g).curCmd = s.curCmd := rfl
@[simp] theorem State.setGhost_prevCmd (g : Ghost) : (s.setGhost g).prevCmd = s.prevCmd := rfl
@[simp] theorem State.setGhost_curMp (g : Ghost) : (s.setGhost g).curMp = s.curMp := rfl
@[simp] theorem State.setGhost_prevMp (g : Ghost) : (s.setGhost g).prevMp = s.prevMp := rfl
@[simp] theorem State.setGhost_frameReady (g : Ghost) : (s.setGhost g).frameReady = s.frameReady := rfl
@[simp] theorem State.setGhost_head (g : Ghost) : (s.setGhost g).head = s.head := rfl
@[simp] theorem State.setGhost_tail (g : Ghost) : (s.setGhost g).tail = s.tail := rfl
@[simp] theorem State.setGhost_rb (g : Ghost) : (s.setGhost g).rb = s.rb := rfl
@[simp] theorem State.setGhost_rom (g : Ghost) : (s.setGhost g).rom = s.rom := rfl
@[simp] theorem State.setGhost_phase (g : Ghost) : (s.setGhost g).phase = s.phase := rfl
@[simp] theorem State.setGhost_tok (g : Ghost) : (s.setGhost g).tok = s.tok := rfl
@[simp] theorem State.setGhost_kind (g : Ghost) : (s.setGhost g).kind = s.kind := rfl
@[simp] theorem State.setGhost_ackBuf (g : Ghost) : (s.setGhost g).ackBuf = s.ackBuf := rfl
@[simp] theorem State.setGhost_ackLen (g : Ghost) : (s.setGhost g).ackLen = s.ackLen := rfl
@[simp] theorem State.setGhost_ackI (g : Ghost) : (s.setGhost g).ackI = s.ackI := rfl
@[simp] theorem State.setGhost_readHeld (g : Ghost) : (s.setGhost g).readHeld = s.readHeld := rfl
@[simp] theorem State.setGhost_tx (g : Ghost) : (s.setGhost g).tx = s.tx := rfl
@[simp] theorem State.setGhost_sched (g : Ghost) : (s.setGhost g).sched = s.sched := rfl
@[simp] theorem State.setGhost_out (g : Ghost) : (s.setGhost g).out = s.out := rfl
@[simp] theorem State.setGhost_ghost (g : Ghost) : (s.setGhost g).ghost = g := rfl
@[simp] theorem State.setGhost_draws (g : Ghost) : (s.setGhost g).draws = s.draws := rfl
@[simp] theorem State.setGhost_env (g : Ghost) : (s.setGhost g).env = s.env := rfl

/-! ### setHeld -/

@[simp] theorem State.setHeld_cfg (b : Bool) : (s.setHeld b).cfg = s.cfg := rfl
@[simp] theorem State.setHeld_curCmd (b : Bool) : (s.setHeld b).curCmd = s.curCmd := rfl
@[simp] theorem State.setHeld_prevCmd (b : Bool) : (s.setHeld b).prevCmd = s.prevCmd := rfl
@[simp] theorem State.setHeld_curMp (b : Bool) : (s.setHeld b).curMp = s.curMp := rfl
@[simp] theorem State.setHeld_prevMp (b : Bool) : (s.setHeld b).prevMp = s.prevMp := rfl
@[simp] theorem State.setHeld_frameReady (b : Bool) : (s.setHeld b).frameReady = s.frameReady := rfl
@[simp] theorem State.setHeld_head (b : Bool) : (s.setHeld b).head = s.head := rfl
@[simp] theorem State.setHeld_tail (b : Bool) : (s.setHeld b).tail = s.tail := rfl
@[simp] theorem State.setHeld_rb (b : Bool) : (s.setHeld b).rb = s.rb := rfl
@[simp] theorem State.setHeld_rom (b : Bool) : (s.setHeld b).rom = s.rom := rfl
@[simp] theorem State.setHeld_phase (b : Bool) : (s.setHeld b).phase = s.phase := rfl
@[simp] theorem State.setHeld_tok (b : Bool) : (s.setHeld b).tok = s.tok := rfl
@[simp] theorem State.setHeld_kind (b : Bool) : (s.setHeld b).kind = s.kind := rfl
@[simp] theorem State.setHeld_ackBuf (b : Bool) : (s.setHeld b).ackBuf = s.ackBuf := rfl
@[simp] theorem State.setHeld_ackLen (b : Bool) : (s.setHeld b).ackLen = s.ackLen := rfl
@[simp] theorem State.setHeld_ackI (b : Bool) : (s.setHeld b).ackI = s.ackI := rfl
@[simp] theorem State.setHeld_readHeld (b : Bool) : (s.setHeld b).readHeld = b := rfl
@[simp] theorem State.setHeld_tx (b : Bool) : (s.setHeld b).tx = s.tx := rfl
@[simp] theorem State.setHeld_sched (b : Bool) : (s.setHeld b).sched = s.sched := rfl
@[simp] theorem State.setHeld_out (b : Bool) : (s.setHeld b).out = s.out := rfl
@[simp] theorem State.setHeld_ghost (b : Bool) : (s.setHeld b).ghost = s.ghost := rfl
@[simp] theorem State.setHeld_draws (b : Bool) : (s.setHeld b).draws = s.draws := rfl
@[simp] theorem State.setHeld_env (b : Bool) : (s.setHeld b).env = s.env := rfl

/-! ### setShared -/

@[simp] theorem State.setShared_cfg (cc pc : BitVec 8) (cm pm : BitVec 10) : (s.setShared cc pc cm pm).cfg = s.cfg := rfl
@[simp] theorem State.setShared_curCmd (cc pc : BitVec 8) (cm pm : BitVec 10) : (s.setShared cc pc cm pm).curCmd = cc := rfl
@[simp] theorem State.setShared_prevCmd (cc pc : BitVec 8) (cm pm : BitVec 10) : (s.setShared cc pc cm pm).prevCmd = pc := rfl
@[simp] theorem State.setShared_curMp (cc pc : BitVec 8) (cm pm : BitVec 10) : (s.setShared cc pc cm pm).curMp = cm := rfl
@[simp] theorem State.setShared_prevMp (cc pc : BitVec 8) (cm pm : BitVec 10) : (s.setShared cc pc cm pm).prevMp = pm := rfl
@[simp] theorem State.setShared_frameReady (cc pc : BitVec 8) (cm pm : BitVec 10) : (s.setShared cc pc cm pm).frameReady = s.frameReady := rfl
@[simp] theorem State.setShared_head (cc pc : BitVec 8) (cm pm : BitVec 10) : (s.setShared cc pc cm pm).head = s.head := rfl
@[simp] theorem State.setShared_tail (cc pc : BitVec 8) (cm pm : BitVec 10) : (s.setShared cc pc cm pm).tail = s.tail := rfl
@[simp] theorem State.setShared_rb (cc pc : BitVec 8) (cm pm : BitVec 10) : (s.setShared cc pc cm pm).rb = s.rb := rfl
@[simp] theorem State.setShared_rom (cc pc : BitVec 8) (cm pm : BitVec 10) : (s.setShared cc pc cm pm).rom = s.rom := rfl
@[simp] theorem State.setShared_phase (cc pc : BitVec 8) (cm pm : BitVec 10) : (s.setShared cc pc cm pm).phase = s.phase := rfl
@[simp] theorem State.setShared_tok (cc pc : BitVec 8) (cm pm : BitVec 10) : (s.setShared cc pc cm pm).tok = s.tok := rfl
@[simp] theorem State.setShared_kind (cc pc : BitVec 8) (cm pm : BitVec 10) : (s.setShared cc pc cm pm).kind = s.kind := rfl
@[simp] theorem State.setShared_ackBuf (cc pc : BitVec 8) (cm pm : BitVec 10) : (s.setShared cc pc cm pm).ackBuf = s.ackBuf := rfl
@[simp] theorem State.setShared_ackLen (cc pc : BitVec 8) (cm pm : BitVec 10) : (s.setShared cc pc cm pm).ackLen = s.ackLen := rfl
@[simp] theorem State.setShared_ackI (cc pc : BitVec 8) (cm pm : BitVec 10) : (s.setShared cc pc cm pm).ackI = s.ackI := rfl
@[simp] theorem State.setShared_readHeld (cc pc : BitVec 8) (cm pm : BitVec 10) : (s.setShared cc pc cm pm).readHeld = s.readHeld := rfl
@[simp] theorem State.setShared_tx (cc pc : BitVec 8) (cm pm : BitVec 10) : (s.setShared cc pc cm pm).tx = s.tx := rfl
@[simp] theorem State.setShared_sched (cc pc : BitVec 8) (cm pm : BitVec 10) : (s.setShared cc pc cm pm).sched = s.sched := rfl
@[simp] theorem State.setShared_out (cc pc : BitVec 8) (cm pm : BitVec 10) : (s.setShared cc pc cm pm).out = s.out := rfl
@[simp] theorem State.setShared_ghost (cc pc : BitVec 8) (cm pm : BitVec 10) : (s.setShared cc pc cm pm).ghost = s.ghost := rfl
@[simp] theorem State.setShared_draws (cc pc : BitVec 8) (cm pm : BitVec 10) : (s.setShared cc pc cm pm).draws = s.draws := rfl
@[simp] theorem State.setShared_env (cc pc : BitVec 8) (cm pm : BitVec 10) : (s.setShared cc pc cm pm).env = s.env := rfl

/-! ### setLine -/

@[simp] theorem State.setLine_cfg (k : BitVec 2) (buf : List Byte) : (s.setLine k buf).cfg = s.cfg := rfl
@[simp] theorem State.setLine_curCmd (k : BitVec 2) (buf : List Byte) : (s.setLine k buf).curCmd = s.curCmd := rfl
@[simp] theorem State.setLine_prevCmd (k : BitVec 2) (buf : List Byte) : (s.setLine k buf).prevCmd = s.prevCmd := rfl
@[simp] theorem State.setLine_curMp (k : BitVec 2) (buf : List Byte) : (s.setLine k buf).curMp = s.curMp := rfl
@[simp] theorem State.setLine_prevMp (k : BitVec 2) (buf : List Byte) : (s.setLine k buf).prevMp = s.prevMp := rfl
@[simp] theorem State.setLine_frameReady (k : BitVec 2) (buf : List Byte) : (s.setLine k buf).frameReady = s.frameReady := rfl
@[simp] theorem State.setLine_head (k : BitVec 2) (buf : List Byte) : (s.setLine k buf).head = s.head := rfl
@[simp] theorem State.setLine_tail (k : BitVec 2) (buf : List Byte) : (s.setLine k buf).tail = s.tail := rfl
@[simp] theorem State.setLine_rb (k : BitVec 2) (buf : List Byte) : (s.setLine k buf).rb = s.rb := rfl
@[simp] theorem State.setLine_rom (k : BitVec 2) (buf : List Byte) : (s.setLine k buf).rom = s.rom := rfl
@[simp] theorem State.setLine_phase (k : BitVec 2) (buf : List Byte) : (s.setLine k buf).phase = s.phase := rfl
@[simp] theorem State.setLine_tok (k : BitVec 2) (buf : List Byte) : (s.setLine k buf).tok = s.tok := rfl
@[simp] theorem State.setLine_kind (k : BitVec 2) (buf : List Byte) : (s.setLine k buf).kind = k := rfl
@[simp] theorem State.setLine_ackBuf (k : BitVec 2) (buf : List Byte) : (s.setLine k buf).ackBuf = buf := rfl
@[simp] theorem State.setLine_ackLen (k : BitVec 2) (buf : List Byte) : (s.setLine k buf).ackLen = s.ackLen := rfl
@[simp] theorem State.setLine_ackI (k : BitVec 2) (buf : List Byte) : (s.setLine k buf).ackI = s.ackI := rfl
@[simp] theorem State.setLine_readHeld (k : BitVec 2) (buf : List Byte) : (s.setLine k buf).readHeld = s.readHeld := rfl
@[simp] theorem State.setLine_tx (k : BitVec 2) (buf : List Byte) : (s.setLine k buf).tx = s.tx := rfl
@[simp] theorem State.setLine_sched (k : BitVec 2) (buf : List Byte) : (s.setLine k buf).sched = s.sched := rfl
@[simp] theorem State.setLine_out (k : BitVec 2) (buf : List Byte) : (s.setLine k buf).out = s.out := rfl
@[simp] theorem State.setLine_ghost (k : BitVec 2) (buf : List Byte) : (s.setLine k buf).ghost = s.ghost := rfl
@[simp] theorem State.setLine_draws (k : BitVec 2) (buf : List Byte) : (s.setLine k buf).draws = s.draws := rfl
@[simp] theorem State.setLine_env (k : BitVec 2) (buf : List Byte) : (s.setLine k buf).env = s.env := rfl

/-! ### setAckPos -/

@[simp] theorem State.setAckPos_cfg (len i : BitVec 5) : (s.setAckPos len i).cfg = s.cfg := rfl
@[simp] theorem State.setAckPos_curCmd (len i : BitVec 5) : (s.setAckPos len i).curCmd = s.curCmd := rfl
@[simp] theorem State.setAckPos_prevCmd (len i : BitVec 5) : (s.setAckPos len i).prevCmd = s.prevCmd := rfl
@[simp] theorem State.setAckPos_curMp (len i : BitVec 5) : (s.setAckPos len i).curMp = s.curMp := rfl
@[simp] theorem State.setAckPos_prevMp (len i : BitVec 5) : (s.setAckPos len i).prevMp = s.prevMp := rfl
@[simp] theorem State.setAckPos_frameReady (len i : BitVec 5) : (s.setAckPos len i).frameReady = s.frameReady := rfl
@[simp] theorem State.setAckPos_head (len i : BitVec 5) : (s.setAckPos len i).head = s.head := rfl
@[simp] theorem State.setAckPos_tail (len i : BitVec 5) : (s.setAckPos len i).tail = s.tail := rfl
@[simp] theorem State.setAckPos_rb (len i : BitVec 5) : (s.setAckPos len i).rb = s.rb := rfl
@[simp] theorem State.setAckPos_rom (len i : BitVec 5) : (s.setAckPos len i).rom = s.rom := rfl
@[simp] theorem State.setAckPos_phase (len i : BitVec 5) : (s.setAckPos len i).phase = s.phase := rfl
@[simp] theorem State.setAckPos_tok (len i : BitVec 5) : (s.setAckPos len i).tok = s.tok := rfl
@[simp] theorem State.setAckPos_kind (len i : BitVec 5) : (s.setAckPos len i).kind = s.kind := rfl
@[simp] theorem State.setAckPos_ackBuf (len i : BitVec 5) : (s.setAckPos len i).ackBuf = s.ackBuf := rfl
@[simp] theorem State.setAckPos_ackLen (len i : BitVec 5) : (s.setAckPos len i).ackLen = len := rfl
@[simp] theorem State.setAckPos_ackI (len i : BitVec 5) : (s.setAckPos len i).ackI = i := rfl
@[simp] theorem State.setAckPos_readHeld (len i : BitVec 5) : (s.setAckPos len i).readHeld = s.readHeld := rfl
@[simp] theorem State.setAckPos_tx (len i : BitVec 5) : (s.setAckPos len i).tx = s.tx := rfl
@[simp] theorem State.setAckPos_sched (len i : BitVec 5) : (s.setAckPos len i).sched = s.sched := rfl
@[simp] theorem State.setAckPos_out (len i : BitVec 5) : (s.setAckPos len i).out = s.out := rfl
@[simp] theorem State.setAckPos_ghost (len i : BitVec 5) : (s.setAckPos len i).ghost = s.ghost := rfl
@[simp] theorem State.setAckPos_draws (len i : BitVec 5) : (s.setAckPos len i).draws = s.draws := rfl
@[simp] theorem State.setAckPos_env (len i : BitVec 5) : (s.setAckPos len i).env = s.env := rfl

/-! ### setTrace -/

@[simp] theorem State.setTrace_cfg (sch : List Stimulus) (d : Nat) : (s.setTrace sch d).cfg = s.cfg := rfl
@[simp] theorem State.setTrace_curCmd (sch : List Stimulus) (d : Nat) : (s.setTrace sch d).curCmd = s.curCmd := rfl
@[simp] theorem State.setTrace_prevCmd (sch : List Stimulus) (d : Nat) : (s.setTrace sch d).prevCmd = s.prevCmd := rfl
@[simp] theorem State.setTrace_curMp (sch : List Stimulus) (d : Nat) : (s.setTrace sch d).curMp = s.curMp := rfl
@[simp] theorem State.setTrace_prevMp (sch : List Stimulus) (d : Nat) : (s.setTrace sch d).prevMp = s.prevMp := rfl
@[simp] theorem State.setTrace_frameReady (sch : List Stimulus) (d : Nat) : (s.setTrace sch d).frameReady = s.frameReady := rfl
@[simp] theorem State.setTrace_head (sch : List Stimulus) (d : Nat) : (s.setTrace sch d).head = s.head := rfl
@[simp] theorem State.setTrace_tail (sch : List Stimulus) (d : Nat) : (s.setTrace sch d).tail = s.tail := rfl
@[simp] theorem State.setTrace_rb (sch : List Stimulus) (d : Nat) : (s.setTrace sch d).rb = s.rb := rfl
@[simp] theorem State.setTrace_rom (sch : List Stimulus) (d : Nat) : (s.setTrace sch d).rom = s.rom := rfl
@[simp] theorem State.setTrace_phase (sch : List Stimulus) (d : Nat) : (s.setTrace sch d).phase = s.phase := rfl
@[simp] theorem State.setTrace_tok (sch : List Stimulus) (d : Nat) : (s.setTrace sch d).tok = s.tok := rfl
@[simp] theorem State.setTrace_kind (sch : List Stimulus) (d : Nat) : (s.setTrace sch d).kind = s.kind := rfl
@[simp] theorem State.setTrace_ackBuf (sch : List Stimulus) (d : Nat) : (s.setTrace sch d).ackBuf = s.ackBuf := rfl
@[simp] theorem State.setTrace_ackLen (sch : List Stimulus) (d : Nat) : (s.setTrace sch d).ackLen = s.ackLen := rfl
@[simp] theorem State.setTrace_ackI (sch : List Stimulus) (d : Nat) : (s.setTrace sch d).ackI = s.ackI := rfl
@[simp] theorem State.setTrace_readHeld (sch : List Stimulus) (d : Nat) : (s.setTrace sch d).readHeld = s.readHeld := rfl
@[simp] theorem State.setTrace_tx (sch : List Stimulus) (d : Nat) : (s.setTrace sch d).tx = s.tx := rfl
@[simp] theorem State.setTrace_sched (sch : List Stimulus) (d : Nat) : (s.setTrace sch d).sched = sch := rfl
@[simp] theorem State.setTrace_out (sch : List Stimulus) (d : Nat) : (s.setTrace sch d).out = s.out := rfl
@[simp] theorem State.setTrace_ghost (sch : List Stimulus) (d : Nat) : (s.setTrace sch d).ghost = s.ghost := rfl
@[simp] theorem State.setTrace_draws (sch : List Stimulus) (d : Nat) : (s.setTrace sch d).draws = d := rfl
@[simp] theorem State.setTrace_env (sch : List Stimulus) (d : Nat) : (s.setTrace sch d).env = s.env := rfl

/-! ### setRound -/

@[simp] theorem State.setRound_cfg (sch : List Stimulus) (e : Environment) : (s.setRound sch e).cfg = s.cfg := rfl
@[simp] theorem State.setRound_curCmd (sch : List Stimulus) (e : Environment) : (s.setRound sch e).curCmd = s.curCmd := rfl
@[simp] theorem State.setRound_prevCmd (sch : List Stimulus) (e : Environment) : (s.setRound sch e).prevCmd = s.prevCmd := rfl
@[simp] theorem State.setRound_curMp (sch : List Stimulus) (e : Environment) : (s.setRound sch e).curMp = s.curMp := rfl
@[simp] theorem State.setRound_prevMp (sch : List Stimulus) (e : Environment) : (s.setRound sch e).prevMp = s.prevMp := rfl
@[simp] theorem State.setRound_frameReady (sch : List Stimulus) (e : Environment) : (s.setRound sch e).frameReady = s.frameReady := rfl
@[simp] theorem State.setRound_head (sch : List Stimulus) (e : Environment) : (s.setRound sch e).head = s.head := rfl
@[simp] theorem State.setRound_tail (sch : List Stimulus) (e : Environment) : (s.setRound sch e).tail = s.tail := rfl
@[simp] theorem State.setRound_rb (sch : List Stimulus) (e : Environment) : (s.setRound sch e).rb = s.rb := rfl
@[simp] theorem State.setRound_rom (sch : List Stimulus) (e : Environment) : (s.setRound sch e).rom = s.rom := rfl
@[simp] theorem State.setRound_phase (sch : List Stimulus) (e : Environment) : (s.setRound sch e).phase = s.phase := rfl
@[simp] theorem State.setRound_tok (sch : List Stimulus) (e : Environment) : (s.setRound sch e).tok = s.tok := rfl
@[simp] theorem State.setRound_kind (sch : List Stimulus) (e : Environment) : (s.setRound sch e).kind = s.kind := rfl
@[simp] theorem State.setRound_ackBuf (sch : List Stimulus) (e : Environment) : (s.setRound sch e).ackBuf = s.ackBuf := rfl
@[simp] theorem State.setRound_ackLen (sch : List Stimulus) (e : Environment) : (s.setRound sch e).ackLen = s.ackLen := rfl
@[simp] theorem State.setRound_ackI (sch : List Stimulus) (e : Environment) : (s.setRound sch e).ackI = s.ackI := rfl
@[simp] theorem State.setRound_readHeld (sch : List Stimulus) (e : Environment) : (s.setRound sch e).readHeld = s.readHeld := rfl
@[simp] theorem State.setRound_tx (sch : List Stimulus) (e : Environment) : (s.setRound sch e).tx = s.tx := rfl
@[simp] theorem State.setRound_sched (sch : List Stimulus) (e : Environment) : (s.setRound sch e).sched = sch := rfl
@[simp] theorem State.setRound_out (sch : List Stimulus) (e : Environment) : (s.setRound sch e).out = s.out := rfl
@[simp] theorem State.setRound_ghost (sch : List Stimulus) (e : Environment) : (s.setRound sch e).ghost = s.ghost := rfl
@[simp] theorem State.setRound_draws (sch : List Stimulus) (e : Environment) : (s.setRound sch e).draws = s.draws := rfl
@[simp] theorem State.setRound_env (sch : List Stimulus) (e : Environment) : (s.setRound sch e).env = e := rfl

/-! ### log -/

@[simp] theorem State.log_cfg (e : GhostEvent) : (s.log e).cfg = s.cfg := rfl
@[simp] theorem State.log_curCmd (e : GhostEvent) : (s.log e).curCmd = s.curCmd := rfl
@[simp] theorem State.log_prevCmd (e : GhostEvent) : (s.log e).prevCmd = s.prevCmd := rfl
@[simp] theorem State.log_curMp (e : GhostEvent) : (s.log e).curMp = s.curMp := rfl
@[simp] theorem State.log_prevMp (e : GhostEvent) : (s.log e).prevMp = s.prevMp := rfl
@[simp] theorem State.log_frameReady (e : GhostEvent) : (s.log e).frameReady = s.frameReady := rfl
@[simp] theorem State.log_head (e : GhostEvent) : (s.log e).head = s.head := rfl
@[simp] theorem State.log_tail (e : GhostEvent) : (s.log e).tail = s.tail := rfl
@[simp] theorem State.log_rb (e : GhostEvent) : (s.log e).rb = s.rb := rfl
@[simp] theorem State.log_rom (e : GhostEvent) : (s.log e).rom = s.rom := rfl
@[simp] theorem State.log_phase (e : GhostEvent) : (s.log e).phase = s.phase := rfl
@[simp] theorem State.log_tok (e : GhostEvent) : (s.log e).tok = s.tok := rfl
@[simp] theorem State.log_kind (e : GhostEvent) : (s.log e).kind = s.kind := rfl
@[simp] theorem State.log_ackBuf (e : GhostEvent) : (s.log e).ackBuf = s.ackBuf := rfl
@[simp] theorem State.log_ackLen (e : GhostEvent) : (s.log e).ackLen = s.ackLen := rfl
@[simp] theorem State.log_ackI (e : GhostEvent) : (s.log e).ackI = s.ackI := rfl
@[simp] theorem State.log_readHeld (e : GhostEvent) : (s.log e).readHeld = s.readHeld := rfl
@[simp] theorem State.log_tx (e : GhostEvent) : (s.log e).tx = s.tx := rfl
@[simp] theorem State.log_sched (e : GhostEvent) : (s.log e).sched = s.sched := rfl
@[simp] theorem State.log_out (e : GhostEvent) : (s.log e).out = s.out := rfl
@[simp] theorem State.log_ghost (e : GhostEvent) : (s.log e).ghost = { s.ghost with events := s.ghost.events ++ [e] } := rfl
@[simp] theorem State.log_draws (e : GhostEvent) : (s.log e).draws = s.draws := rfl
@[simp] theorem State.log_env (e : GhostEvent) : (s.log e).env = s.env := rfl

/-! ### markTerm -/

@[simp] theorem State.markTerm_cfg (b : Bool) : (s.markTerm b).cfg = s.cfg := rfl
@[simp] theorem State.markTerm_curCmd (b : Bool) : (s.markTerm b).curCmd = s.curCmd := rfl
@[simp] theorem State.markTerm_prevCmd (b : Bool) : (s.markTerm b).prevCmd = s.prevCmd := rfl
@[simp] theorem State.markTerm_curMp (b : Bool) : (s.markTerm b).curMp = s.curMp := rfl
@[simp] theorem State.markTerm_prevMp (b : Bool) : (s.markTerm b).prevMp = s.prevMp := rfl
@[simp] theorem State.markTerm_frameReady (b : Bool) : (s.markTerm b).frameReady = s.frameReady := rfl
@[simp] theorem State.markTerm_head (b : Bool) : (s.markTerm b).head = s.head := rfl
@[simp] theorem State.markTerm_tail (b : Bool) : (s.markTerm b).tail = s.tail := rfl
@[simp] theorem State.markTerm_rb (b : Bool) : (s.markTerm b).rb = s.rb := rfl
@[simp] theorem State.markTerm_rom (b : Bool) : (s.markTerm b).rom = s.rom := rfl
@[simp] theorem State.markTerm_phase (b : Bool) : (s.markTerm b).phase = s.phase := rfl
@[simp] theorem State.markTerm_tok (b : Bool) : (s.markTerm b).tok = s.tok := rfl
@[simp] theorem State.markTerm_kind (b : Bool) : (s.markTerm b).kind = s.kind := rfl
@[simp] theorem State.markTerm_ackBuf (b : Bool) : (s.markTerm b).ackBuf = s.ackBuf := rfl
@[simp] theorem State.markTerm_ackLen (b : Bool) : (s.markTerm b).ackLen = s.ackLen := rfl
@[simp] theorem State.markTerm_ackI (b : Bool) : (s.markTerm b).ackI = s.ackI := rfl
@[simp] theorem State.markTerm_readHeld (b : Bool) : (s.markTerm b).readHeld = s.readHeld := rfl
@[simp] theorem State.markTerm_tx (b : Bool) : (s.markTerm b).tx = s.tx := rfl
@[simp] theorem State.markTerm_sched (b : Bool) : (s.markTerm b).sched = s.sched := rfl
@[simp] theorem State.markTerm_out (b : Bool) : (s.markTerm b).out = s.out := rfl
@[simp] theorem State.markTerm_ghost (b : Bool) : (s.markTerm b).ghost = { s.ghost with termSincePoll := b } := rfl
@[simp] theorem State.markTerm_draws (b : Bool) : (s.markTerm b).draws = s.draws := rfl
@[simp] theorem State.markTerm_env (b : Bool) : (s.markTerm b).env = s.env := rfl

/-! ### logIf -/

@[simp] theorem State.logIf_cfg (c : Bool) (e : GhostEvent) : (s.logIf c e).cfg = s.cfg := by cases c <;> rfl
@[simp] theorem State.logIf_curCmd (c : Bool) (e : GhostEvent) : (s.logIf c e).curCmd = s.curCmd := by cases c <;> rfl
@[simp] theorem State.logIf_prevCmd (c : Bool) (e : GhostEvent) : (s.logIf c e).prevCmd = s.prevCmd := by cases c <;> rfl
@[simp] theorem State.logIf_curMp (c : Bool) (e : GhostEvent) : (s.logIf c e).curMp = s.curMp := by cases c <;> rfl
@[simp] theorem State.logIf_prevMp (c : Bool) (e : GhostEvent) : (s.logIf c e).prevMp = s.prevMp := by cases c <;> rfl
@[simp] theorem State.logIf_frameReady (c : Bool) (e : GhostEvent) : (s.logIf c e).frameReady = s.frameReady := by cases c <;> rfl
@[simp] theorem State.logIf_head (c : Bool) (e : GhostEvent) : (s.logIf c e).head = s.head := by cases c <;> rfl
@[simp] theorem State.logIf_tail (c : Bool) (e : GhostEvent) : (s.logIf c e).tail = s.tail := by cases c <;> rfl
@[simp] theorem State.logIf_rb (c : Bool) (e : GhostEvent) : (s.logIf c e).rb = s.rb := by cases c <;> rfl
@[simp] theorem State.logIf_rom (c : Bool) (e : GhostEvent) : (s.logIf c e).rom = s.rom := by cases c <;> rfl
@[simp] theorem State.logIf_phase (c : Bool) (e : GhostEvent) : (s.logIf c e).phase = s.phase := by cases c <;> rfl
@[simp] theorem State.logIf_tok (c : Bool) (e : GhostEvent) : (s.logIf c e).tok = s.tok := by cases c <;> rfl
@[simp] theorem State.logIf_kind (c : Bool) (e : GhostEvent) : (s.logIf c e).kind = s.kind := by cases c <;> rfl
@[simp] theorem State.logIf_ackBuf (c : Bool) (e : GhostEvent) : (s.logIf c e).ackBuf = s.ackBuf := by cases c <;> rfl
@[simp] theorem State.logIf_ackLen (c : Bool) (e : GhostEvent) : (s.logIf c e).ackLen = s.ackLen := by cases c <;> rfl
@[simp] theorem State.logIf_ackI (c : Bool) (e : GhostEvent) : (s.logIf c e).ackI = s.ackI := by cases c <;> rfl
@[simp] theorem State.logIf_readHeld (c : Bool) (e : GhostEvent) : (s.logIf c e).readHeld = s.readHeld := by cases c <;> rfl
@[simp] theorem State.logIf_tx (c : Bool) (e : GhostEvent) : (s.logIf c e).tx = s.tx := by cases c <;> rfl
@[simp] theorem State.logIf_sched (c : Bool) (e : GhostEvent) : (s.logIf c e).sched = s.sched := by cases c <;> rfl
@[simp] theorem State.logIf_out (c : Bool) (e : GhostEvent) : (s.logIf c e).out = s.out := by cases c <;> rfl
@[simp] theorem State.logIf_draws (c : Bool) (e : GhostEvent) : (s.logIf c e).draws = s.draws := by cases c <;> rfl
@[simp] theorem State.logIf_env (c : Bool) (e : GhostEvent) : (s.logIf c e).env = s.env := by cases c <;> rfl

@[simp] theorem State.logIf_accepted (c : Bool) (e : GhostEvent) :
    (s.logIf c e).ghost.accepted = s.ghost.accepted := by cases c <;> rfl
@[simp] theorem State.logIf_popped (c : Bool) (e : GhostEvent) :
    (s.logIf c e).ghost.popped = s.ghost.popped := by cases c <;> rfl

end Sys2Proof.Machine
end

