-- ==== Sys2Proof/Laws/Memory.lean ====
section
/-! SUPPORT. The ring storage: reading after writing, and the canonical form. -/

namespace Sys2Proof.Machine

theorem Memory.read_write_same (m : List Host.Cell) (a : Nat) (b : Byte) :
    Memory.read (Memory.write m a b) a = some b := by
  induction m with
  | nil => simp [Memory.write, Memory.read]
  | cons c cs ih =>
    simp only [Memory.write]
    split
    · simp [Memory.read]
    · split
      · simp [Memory.read]
      · have : c.1 ≠ a := by omega
        simp [Memory.read, this, ih]

theorem Memory.read_write_other (m : List Host.Cell) (a x : Nat) (b : Byte) (h : x ≠ a) :
    Memory.read (Memory.write m a b) x = Memory.read m x := by
  induction m with
  | nil => simp [Memory.write, Memory.read, Ne.symm h]
  | cons c cs ih =>
    simp only [Memory.write]
    split
    · simp [Memory.read, Ne.symm h]
    · split
      · have : c.1 ≠ x := by omega
        simp [Memory.read, Ne.symm h, this]
      · simp [Memory.read, ih]

theorem Memory.write_wfFrom (m : List Host.Cell) (lo a : Nat) (b : Byte) (hlo : lo ≤ a)
    (h : Memory.wfFrom lo m = true) : Memory.wfFrom lo (Memory.write m a b) = true := by
  induction m generalizing lo with
  | nil => simpa [Memory.write, Memory.wfFrom] using hlo
  | cons c cs ih =>
    simp only [Memory.wfFrom, Bool.and_eq_true, decide_eq_true_eq] at h
    simp only [Memory.write]
    split
    · simp only [Memory.wfFrom, Bool.and_eq_true, decide_eq_true_eq]
      exact ⟨hlo, by omega, h.2⟩
    · split
      · next hac => subst hac; simp [Memory.wfFrom, hlo, h.2]
      · simp only [Memory.wfFrom, Bool.and_eq_true, decide_eq_true_eq]
        exact ⟨h.1, ih _ (by omega) h.2⟩

/-- A write keeps the canonical form; a read changes no memory. -/
theorem Memory.write_wf (m : List Host.Cell) (a : Nat) (b : Byte) (h : Memory.wf m = true) :
    Memory.wf (Memory.write m a b) = true := Memory.write_wfFrom m 0 a b (Nat.zero_le a) h

theorem Memory.reset_wf (c : Config) : Memory.wf (State.resetWith c).rb = true := rfl

/-- A cell of the list after a write is the new one or an old one. -/
theorem Memory.mem_write (m : List Host.Cell) (a : Nat) (b : Byte) (c : Host.Cell)
    (h : c ∈ Memory.write m a b) : c = (a, b) ∨ c ∈ m := by
  induction m with
  | nil => simpa [Memory.write] using h
  | cons d ds ih =>
    simp only [Memory.write] at h
    split at h
    · simpa using h
    · split at h
      · rcases List.mem_cons.1 h with h | h
        · exact .inl h
        · exact .inr (List.mem_cons_of_mem _ h)
      · rcases List.mem_cons.1 h with h | h
        · exact .inr (h ▸ List.mem_cons_self)
        · exact (ih h).imp id (List.mem_cons_of_mem _)

theorem State.ringWrite_inside (s : State) (a : Nat) (b : Byte) (h : a < s.cfg.n) :
    s.ringWrite a b = .ok (s.setRb (Memory.write s.rb a b)) := if_pos h

theorem State.ringRead_inside (s : State) (a : Nat) (b : Byte) (h : a < s.cfg.n)
    (hb : Memory.read s.rb a = some b) : s.ringRead a = .ok b := by simp [State.ringRead, h, hb]

/-- What a slot's read can answer. -/
theorem State.ringRead_ok (s : State) (a : Nat) (b : Byte) (h : s.ringRead a = .ok b) :
    a < s.cfg.n ∧ Memory.read s.rb a = some b := by
  unfold State.ringRead at h
  split at h
  · split at h
    · next hr => cases h; exact ⟨‹_›, hr⟩
    · cases h
  · cases h

end Sys2Proof.Machine
end

