-- ==== Sys2Proof/Laws/Ring.lean ====
section
/-! SUPPORT. One lemma per shared operation: everything PUSH, POP, the taking of an RX event and the enabling conditions
can do. -/

namespace Sys2Proof.Machine

/-- The two ways a PUSH completes. -/
theorem State.pushByte_cases {s t : State} {b : Byte} {ok : Bool} (h : s.pushByte b = .ok (ok, t)) :
    (s.count = s.cfg.n - 1 ∧ ok = false ∧ t = s.setOut { s.out with wrOk := some false }) ∨
    (s.count ≠ s.cfg.n - 1 ∧ s.tail < s.cfg.n ∧ ok = true ∧
      t = (((s.setRb (Memory.write s.rb s.tail b)).setTail (s.nextIndex s.tail)).setOut
        { s.out with wrOk := some true }).setGhost { s.ghost with accepted := s.ghost.accepted + 1 }) := by
  unfold State.pushByte at h
  split at h
  · cases h; exact .inl ⟨‹_›, rfl, rfl⟩
  · by_cases ht : s.tail < s.cfg.n
    · rw [State.ringWrite_inside _ _ _ ht] at h
      cases h
      exact .inr ⟨‹_›, ht, rfl, rfl⟩
    · simp [State.ringWrite, ht] at h

/-- A PUSH completes when `tail` is a slot's index. -/
theorem State.pushByte_completes (s : State) (b : Byte) (h : s.tail < s.cfg.n) :
    ∃ ok t, s.pushByte b = .ok (ok, t) := by
  unfold State.pushByte
  split
  · exact ⟨_, _, rfl⟩
  · rw [State.ringWrite_inside _ _ _ h]; exact ⟨_, _, rfl⟩

/-- The two ways a POP completes. -/
theorem State.popByte_cases {s t : State} {v : Byte} (h : s.popByte = .ok (v, t)) :
    (s.head = s.tail ∧ v = sent ∧
      t = (s.setOut { s.out with rdData := some sent, rdEmpty := some true }).log .emptyPop) ∨
    (s.head ≠ s.tail ∧ s.head < s.cfg.n ∧ Memory.read s.rb s.head = some v ∧
      t = ((s.setHead (s.nextIndex s.head)).setOut
        { s.out with rdData := some v, rdEmpty := some false }).setGhost
          { s.ghost with popped := s.ghost.popped + 1 }) := by
  unfold State.popByte at h
  split at h
  · cases h; exact .inl ⟨‹_›, rfl, rfl⟩
  · split at h
    · cases h
    · next hr =>
      cases h
      obtain ⟨h1, h2⟩ := s.ringRead_ok _ _ hr
      exact .inr ⟨‹_›, h1, h2, rfl⟩

/-- A POP completes when the ring is empty or the slot at `head` was written. -/
theorem State.popByte_completes (s : State)
    (h : s.head = s.tail ∨ (s.head < s.cfg.n ∧ ∃ b, Memory.read s.rb s.head = some b)) :
    ∃ v t, s.popByte = .ok (v, t) := by
  unfold State.popByte
  split
  · exact ⟨_, _, rfl⟩
  · obtain h | ⟨h, b, hb⟩ := h
    · contradiction
    · rw [State.ringRead_inside s _ b h hb]; exact ⟨_, _, rfl⟩

/-- A PUSH touches the ring, its output and the ghost history, nothing else. -/
theorem State.pushByte_frame {s t : State} {b : Byte} {ok : Bool} (h : s.pushByte b = .ok (ok, t)) :
    t = { s with rb := t.rb, tail := t.tail, out := { s.out with wrOk := some ok },
                 ghost := { s.ghost with accepted := t.ghost.accepted } } := by
  rcases State.pushByte_cases h with ⟨-, rfl, rfl⟩ | ⟨-, -, rfl, rfl⟩ <;> rfl

/-- A POP touches `head`, its outputs and the ghost history, nothing else. -/
theorem State.popByte_frame {s t : State} {v : Byte} (h : s.popByte = .ok (v, t)) :
    t = { s with head := t.head, out := { s.out with rdData := some v, rdEmpty := some (decide (s.head = s.tail)) },
                 ghost := t.ghost } := by
  rcases State.popByte_cases h with ⟨hc, rfl, rfl⟩ | ⟨hc, -, -, rfl⟩ <;>
    simp [hc, State.setOut, State.log, State.setGhost, State.setHead]

/-- Taking an RX event is the push, then the echo and the ghost event. -/
theorem State.takeRx_cases {s t : State} {b : Byte} {echo : List Byte} {drop : GhostEvent}
    (h : s.takeRx b echo drop = .ok t) :
    ∃ ok s1, s.pushByte b = .ok (ok, s1) ∧ t = (s1.emit echo).logIf (!ok) drop := by
  unfold State.takeRx at h
  split at h
  · cases h
  · next ok s1 hp => cases h; exact ⟨ok, s1, hp, rfl⟩

theorem State.atPhase_next {s t : State} {p : BitVec 4} {r : Result} :
    s.atPhase p r = .next t ↔ s.phase = p ∧ r = .next t := by
  unfold State.atPhase; split <;> simp_all

theorem State.whenIdle_next {s t : State} {r : Result} :
    s.whenIdle r = .next t ↔ s.phase = Phase.idle ∧ s.readHeld = false ∧ r = .next t := by
  unfold State.whenIdle; split <;> [split; skip] <;> simp_all

theorem State.whenToken_next {s t : State} {here : Bool} {r : Result} :
    s.whenToken here r = .next t ↔ s.phase = Phase.classify ∧ here = true ∧ r = .next t := by
  unfold State.whenToken; rw [State.atPhase_next]; cases here <;> simp

/-- The two ways a FETCH ends. -/
theorem State.fetchChar_next {s t : State} {k : Nat} (h : s.fetchChar k = .next t) :
    ∃ v s1, s.popByte = .ok (v, s1) ∧
      ((fold v = sent ∧ t = (s1.setTok (s1.tok.padFrom k)).setPhase Phase.drain) ∨
       (fold v ≠ sent ∧ t = (s1.setTok (s1.tok.put k (fold v))).setPhase (Phase.afterFetch k))) := by
  unfold State.fetchChar at h
  split at h
  · cases h
  · next v s1 hp =>
    refine ⟨v, s1, hp, ?_⟩
    split at h <;> cases h
    · exact .inl ⟨‹_›, rfl⟩
    · exact .inr ⟨‹_›, rfl⟩

/-- What a successful scan says: the ordinal is at most SCAN_LAST and its entry is the token (R160). -/
theorem scanFrom_some {tok : Token} {es : List Token} {i j : Nat} (h : scanFrom i tok es = some j) :
    i ≤ j ∧ j < i + es.length ∧ es[j - i]? = some tok := by
  induction es generalizing i with
  | nil => simp [scanFrom] at h
  | cons e es ih =>
    simp only [scanFrom] at h
    split at h
    · next he => cases h; simp [he]
    · obtain ⟨h1, h2, h3⟩ := ih h
      refine ⟨by omega, by simp; omega, ?_⟩
      have : j - i = (j - (i + 1)) + 1 := by omega
      rw [this]; simpa using h3

theorem scan_some {rom : List Token} {tok : Token} {j : Nat} (h : scan rom tok = some j) :
    j ≤ scanLast ∧ rom[j]? = some tok := by
  obtain ⟨-, h2, h3⟩ := scanFrom_some h
  simp only [Nat.zero_add, Nat.sub_zero, List.length_take] at h2 h3
  have hj : j < scanLast + 1 := by omega
  refine ⟨by omega, ?_⟩
  rw [List.getElem?_take] at h3
  simpa [hj] using h3

/-- A token that stands once in the entries is found at its place (R160). -/
theorem scanFrom_hit {tok : Token} {es : List Token} {b i : Nat} (hi : es[i]? = some tok)
    (hf : ∀ j < i, es[j]? ≠ some tok) : scanFrom b tok es = some (b + i) := by
  induction es generalizing b i with
  | nil => simp at hi
  | cons e es ih =>
    cases i with
    | zero => simp at hi; simp [scanFrom, hi]
    | succ i =>
      have he : e ≠ tok := fun he => hf 0 (by omega) (by simp [he])
      simp only [scanFrom, if_neg he]
      rw [ih (b := b + 1) (by simpa using hi) (fun j hj => by simpa using hf (j + 1) (by omega))]
      congr 1; omega

/-- No entry up to SCAN_LAST is the token: the scan finds nothing (R160, R181). -/
theorem scan_miss {rom : List Token} {tok : Token} (h : ∀ i ≤ scanLast, rom[i]? ≠ some tok) : scan rom tok = none := by
  cases hs : scan rom tok with
  | none => rfl
  | some j => exact absurd (scan_some hs).2 (h j (scan_some hs).1)

end Sys2Proof.Machine
end

