-- ==== Sys2Proof/Laws/Contents.lean ====
section
/-! SUPPORT. The index arithmetic of the ring, and what a PUSH and a POP do to the occupied slots,
    on plain indices and
storage (no state). -/

namespace Sys2Proof.Machine

/-- `count()` on plain numbers. -/
def countOf (n h t : Nat) : Nat := if t ≥ h then t - h else n - h + t

/-- The occupied slots on plain numbers and storage. -/
def slotsOf (m : List Host.Cell) (n h k : Nat) : List Byte :=
  (List.range k).filterMap (fun i => Memory.read m ((h + i) % n))

theorem State.count_eq (s : State) : s.count = countOf s.cfg.n s.head s.tail := rfl

theorem State.contents_eq (s : State) : s.contents = slotsOf s.rb s.cfg.n s.head s.count := rfl

variable {n h t : Nat}

theorem countOf_lt (hh : h < n) (ht : t < n) : countOf n h t < n := by unfold countOf; split <;> omega

theorem countOf_mod (hh : h < n) (ht : t < n) : countOf n h t = (t + n - h) % n := by
  unfold countOf
  split
  · rw [show t + n - h = t - h + n by omega, Nat.add_mod_right, Nat.mod_eq_of_lt (by omega)]
  · rw [Nat.mod_eq_of_lt (by omega)]; omega

/-- The slot after the last occupied one is the one at `tail`. -/
theorem slot_at_tail (hh : h < n) (ht : t < n) : (h + countOf n h t) % n = t := by
  unfold countOf
  split
  · rw [show h + (t - h) = t by omega, Nat.mod_eq_of_lt ht]
  · rw [show h + (n - h + t) = t + n by omega, Nat.add_mod_right, Nat.mod_eq_of_lt ht]

theorem countOf_zero (hh : h < n) : countOf n h t = 0 ↔ h = t := by unfold countOf; split <;> omega

theorem next_index (hh : h < n) : (h + 1) % n = if h + 1 = n then 0 else h + 1 := by
  split
  · next he => rw [he, Nat.mod_self]
  · exact Nat.mod_eq_of_lt (by omega)

theorem countOf_full (hh : h < n) (ht : t < n) : countOf n h t = n - 1 ↔ (t + 1) % n = h := by
  rw [next_index ht]; unfold countOf; split <;> split <;> omega

/-- A PUSH that is not refused raises the count by one. -/
theorem countOf_push (hh : h < n) (ht : t < n) (hf : countOf n h t ≠ n - 1) :
    countOf n h ((t + 1) % n) = countOf n h t + 1 := by
  rw [next_index ht]; unfold countOf at hf ⊢; split_ifs at hf ⊢ <;> omega

/-- A POP that gives a byte lowers the count by one. -/
theorem countOf_pop (hh : h < n) (ht : t < n) (he : h ≠ t) :
    countOf n ((h + 1) % n) t + 1 = countOf n h t := by
  rw [next_index hh]; unfold countOf; split <;> split <;> split <;> omega

theorem slotsOf_length {m : List Host.Cell} {k : Nat}
    (ho : ∀ i < k, (Memory.read m ((h + i) % n)).isSome = true) : (slotsOf m n h k).length = k := by
  induction k with
  | zero => rfl
  | succ k ih =>
    have hk := ho k (Nat.lt_succ_self k)
    obtain ⟨b, hb⟩ := Option.isSome_iff_exists.1 hk
    have := ih (fun i hi => ho i (by omega))
    simp only [slotsOf] at this ⊢
    simp [List.range_succ, hb, this]

/-- Storage that agrees on the occupied slots gives the same bytes. -/
theorem slotsOf_congr {m m' : List Host.Cell} {k : Nat}
    (hm : ∀ i < k, Memory.read m' ((h + i) % n) = Memory.read m ((h + i) % n)) :
    slotsOf m' n h k = slotsOf m n h k :=
  List.filterMap_congr (fun i hi => hm i (List.mem_range.1 hi))

/-- One more slot is the byte after the others. -/
theorem slotsOf_succ {m : List Host.Cell} {k : Nat} {b : Byte} (hb : Memory.read m ((h + k) % n) = some b) :
    slotsOf m n h (k + 1) = slotsOf m n h k ++ [b] := by
  simp [slotsOf, List.range_succ, hb]

/-- The oldest slot is the first byte. -/
theorem slotsOf_cons {m : List Host.Cell} {k : Nat} {b : Byte} (hh : h < n) (hb : Memory.read m h = some b) :
    slotsOf m n h (k + 1) = b :: slotsOf m n ((h + 1) % n) k := by
  have h0 : Memory.read m ((h + 0) % n) = some b := by rw [Nat.add_zero, Nat.mod_eq_of_lt hh, hb]
  simp only [slotsOf, List.range_succ_eq_map, List.filterMap_cons, h0, List.filterMap_map]
  congr 1
  apply List.filterMap_congr
  intro i _
  simp only [Function.comp_apply, Nat.succ_eq_add_one]
  rw [Nat.mod_add_mod, show h + (i + 1) = h + 1 + i by omega]

/-- An occupied slot is not the one at `tail`. -/
theorem slot_ne_tail {i : Nat} (hh : h < n) (ht : t < n) (hi : i < countOf n h t) : (h + i) % n ≠ t := by
  intro he
  have h2 := slot_at_tail hh ht
  have hc := countOf_lt hh ht
  unfold countOf at *
  rcases Nat.lt_or_ge (h + i) n with hlt | hge
  · rw [Nat.mod_eq_of_lt hlt] at he; split at hi <;> omega
  · rw [Nat.mod_eq_sub_mod hge, Nat.mod_eq_of_lt (by split at hi <;> omega)] at he
    split at hi <;> omega

/-! ### PUSH and POP on the occupied slots of a state -/

/-- The part of `Legal` that is about the ring buffer (Safety.lean). -/
structure RingOk (s : State) : Prop where
  head_lt : s.head < s.cfg.n
  tail_lt : s.tail < s.cfg.n
  rb_wf : Memory.wf s.rb = true
  rb_inside : ∀ c ∈ s.rb, c.1 < s.cfg.n
  occupied : ∀ k < s.count, (Memory.read s.rb ((s.head + k) % s.cfg.n)).isSome = true

/-- Only the parameters, the indices and the storage matter. -/
theorem RingOk.congr {s t : State} (h : RingOk s) (h1 : t.head = s.head) (h2 : t.tail = s.tail) (h3 : t.rb = s.rb)
    (h4 : t.cfg = s.cfg) : RingOk t := by
  obtain ⟨a, b, c, d, e⟩ := h
  have hc : t.count = s.count := by simp [State.count, h1, h2, h4]
  exact ⟨by rw [h1, h4]; exact a, by rw [h2, h4]; exact b, by rw [h3]; exact c, by rw [h3, h4]; exact d,
    by rw [h1, h3, h4, hc]; exact e⟩

theorem State.contents_congr {s t : State} (h1 : t.head = s.head) (h2 : t.tail = s.tail) (h3 : t.rb = s.rb)
    (h4 : t.cfg = s.cfg) : t.contents = s.contents := by
  have hc : t.count = s.count := by simp [State.count, h1, h2, h4]
  simp [State.contents, hc, h1, h3, h4]

/-- What a PUSH does to the occupied slots. -/
theorem RingOk.push {s t : State} {b : Byte} {ok : Bool} (hi : RingOk s) (h : s.pushByte b = .ok (ok, t)) :
    RingOk t ∧ t.contents = (if s.count = s.cfg.n - 1 then s.contents else s.contents ++ [b]) ∧
   t.count = (if s.count = s.cfg.n - 1 then s.count else s.count + 1) := by
  rcases State.pushByte_cases h with ⟨hc, -, rfl⟩ | ⟨hc, -, -, rfl⟩
  · simp only [hc, if_true]
    exact ⟨hi.congr rfl rfl rfl rfl, State.contents_congr rfl rfl rfl rfl, hc⟩
  · rw [if_neg hc, if_neg hc]
    have hcnt : countOf s.cfg.n s.head ((s.tail + 1) % s.cfg.n) = s.count + 1 := countOf_push hi.head_lt hi.tail_lt hc
    have hold : ∀ i < s.count,
        Memory.read (Memory.write s.rb s.tail b) ((s.head + i) % s.cfg.n) = Memory.read s.rb ((s.head + i) % s.cfg.n) := by
      intro i hi'; exact Memory.read_write_other _ _ _ _ (slot_ne_tail hi.head_lt hi.tail_lt hi')
    have hnew : Memory.read (Memory.write s.rb s.tail b) ((s.head + s.count) % s.cfg.n) = some b := by
      rw [State.count_eq, slot_at_tail hi.head_lt hi.tail_lt, Memory.read_write_same]
    refine ⟨⟨hi.head_lt, Nat.mod_lt _ (by have := hi.head_lt; show 0 < s.cfg.n; omega),
        Memory.write_wf _ _ _ hi.rb_wf, ?_, ?_⟩, ?_, hcnt⟩
    · intro c hc'
      rcases Memory.mem_write _ _ _ _ hc' with rfl | h
      · exact hi.tail_lt
      · exact hi.rb_inside _ h
    · intro k hk
      simp only [State.count_eq] at hk
      simp only [State.setGhost_cfg, State.setOut_cfg, State.setTail_cfg, State.setRb_cfg, State.setGhost_head,
          State.setOut_head, State.setTail_head, State.setRb_head, State.setGhost_tail, State.setOut_tail,
          State.setTail_tail, State.nextIndex] at hk
      rw [hcnt] at hk
      simp only [State.setGhost_cfg, State.setOut_cfg, State.setTail_cfg, State.setRb_cfg, State.setGhost_head,
          State.setOut_head, State.setTail_head, State.setRb_head, State.setGhost_rb, State.setOut_rb,
          State.setTail_rb, State.setRb_rb]
      rcases Nat.lt_or_ge k s.count with h | h
      · rw [hold k h]; exact hi.occupied k h
      · rw [show k = s.count by omega, hnew]; rfl
    · rw [State.contents_eq, State.count_eq]
      simp only [State.setGhost_cfg, State.setOut_cfg, State.setTail_cfg, State.setRb_cfg, State.setGhost_head,
          State.setOut_head, State.setTail_head, State.setRb_head, State.setGhost_tail, State.setOut_tail,
          State.setTail_tail, State.nextIndex, State.setGhost_rb, State.setOut_rb, State.setTail_rb, State.setRb_rb]
      rw [hcnt, slotsOf_succ hnew, slotsOf_congr hold]; rfl

/-- What a POP does to the occupied slots. -/
theorem RingOk.pop {s t : State} {v : Byte} (hi : RingOk s) (h : s.popByte = .ok (v, t)) :
    RingOk t ∧ t.contents = s.contents.tail ∧ v = s.contents.headD 0xFF#8 ∧ t.count = s.count - 1 ∧ (s.head = s.tail ↔ s.contents = []) := by
  have hz := countOf_zero (t := s.tail) hi.head_lt
  rcases State.popByte_cases h with ⟨hc, rfl, rfl⟩ | ⟨hc, h1, h2, rfl⟩
  · have h0 : s.count = 0 := hz.2 hc
    have hn : s.contents = [] := by simp [State.contents, h0]
    refine ⟨hi.congr rfl rfl rfl rfl, ?_, by simp [hn, sent], ?_, by simp [hc, hn]⟩
    · rw [hn]; exact hn
    · rw [h0]; exact h0
  · have hpop := countOf_pop hi.head_lt hi.tail_lt hc
    rw [← State.count_eq] at hpop
    have hco : s.contents = v :: slotsOf s.rb s.cfg.n ((s.head+1) % s.cfg.n) (countOf s.cfg.n ((s.head+1)%s.cfg.n) s.tail) := by
      rw [State.contents_eq, ← hpop]; exact slotsOf_cons h1 h2
    refine ⟨⟨Nat.mod_lt _ (by show 0 < s.cfg.n; omega), hi.tail_lt, hi.rb_wf, hi.rb_inside, ?_⟩, ?_, by simp [hco],
        ?_, by simp [hc, hco]⟩
    · intro k hk
      have := hi.occupied (k+1) (by have : k < countOf s.cfg.n ((s.head+1)%s.cfg.n) s.tail := hk; omega)
      show (Memory.read s.rb (((s.head+1)%s.cfg.n + k) % s.cfg.n)).isSome = true
      rw [Nat.mod_add_mod, show s.head + 1 + k = s.head + (k+1) by omega]; exact this
    · rw [hco]; rfl
    · show countOf s.cfg.n ((s.head+1)%s.cfg.n) s.tail = _; omega

end Sys2Proof.Machine
end

