-- ==== Sys2Proof/Laws/Exec.lean ====
section
/-! SUPPORT. Everything an operation that completes can do, said once: claims about all operations take these cases apart
and never unfold `exec`. -/

namespace Sys2Proof.Machine

/-- `Effect i s t`: the operation `i` takes `s` to `t`, by the way it does so. -/
inductive Effect : Instr → State → State → Prop where
  | still (i : Instr) (s : State)
      (hi : i = .nop ∨ (∃ low, i = .hopReserved low) ∨ i = .pollNoframe ∨ i = .idle) (hp : s.phase = Phase.idle) :
      Effect i s s
  | rxTerm (s : State) (ok : Bool) (u : State) (h : s.raiseReady.pushByte sent = .ok (ok, u)) :
      Effect .rxTerm s ((u.emit [term, lineFeed]).logIf (!ok) .dropSent)
  | rxData (s : State) (b : Byte) (ok : Bool) (u : State) (hb : b ≠ term) (h : s.pushByte b = .ok (ok, u)) :
      Effect (.rxData b) s ((u.emit [b]).logIf (!ok) .dropData)
  | poll (s : State) (hp : s.phase = Phase.idle) (hh : s.readHeld = false) (hr : s.frameReady = true) :
      Effect .pollFrame s ((s.setPhase Phase.fetch0).markTerm false)
  | hold (s : State) (hp : s.phase = Phase.idle) (hc : s.count = 0) : Effect .readWait s (s.setHeld true)
  | readWait (s : State) (v : Byte) (u : State) (hp : s.phase = Phase.idle) (hc : s.count ≠ 0)
      (h : s.popByte = .ok (v, u)) :
      Effect .readWait s ((u.setHeld false).setOut { u.out with hostRdata := some v })
  | output (i : Instr) (s : State) (o : PortOut)
      (hi : (i = .count ∧ s.phase = Phase.idle) ∨ i = .rbCount ∨ ∃ wide a, i = .stRead wide a) :
      Effect i s (s.setOut o)
  | push (s : State) (b : Byte) (ok : Bool) (t : State) (h : s.pushByte b = .ok (ok, t)) : Effect (.push b) s t
  | pop (s : State) (v : Byte) (t : State) (h : s.popByte = .ok (v, t)) : Effect .pop s t
  | fetchEnd (i : Instr) (k : Nat) (s : State) (v : Byte) (u : State)
      (hi : (i, k) ∈ [(Instr.fetch0, 0), (.fetch1, 1), (.fetch2, 2), (.fetch3, 3)]) (hp : s.phase.toNat = k + 1)
      (h : s.popByte = .ok (v, u)) (hv : fold v = sent) :
      Effect i s ((u.setTok (u.tok.padFrom k)).setPhase Phase.drain)
  | fetchChar (i : Instr) (k : Nat) (s : State) (v : Byte) (u : State)
      (hi : (i, k) ∈ [(Instr.fetch0, 0), (.fetch1, 1), (.fetch2, 2), (.fetch3, 3)]) (hp : s.phase.toNat = k + 1)
      (h : s.popByte = .ok (v, u)) (hv : fold v ≠ sent) :
      Effect i s ((u.setTok (u.tok.put k (fold v))).setPhase (Phase.afterFetch k))
  | drain (s : State) (v : Byte) (u : State) (hp : s.phase = Phase.drain) (h : s.popByte = .ok (v, u)) :
      Effect .drain s (u.setPhase Phase.classify)
  | table (i : Instr) (s : State) (n : Nat) (hi : isTokenClass i = true) (hp : s.phase = Phase.classify)
      (hn : n ≤ scanLast) : Effect i s (s.classifyMatch n)
  | page (i : Instr) (s : State) (hi : isTokenClass i = true) (hp : s.phase = Phase.classify) : Effect i s s.classifyPage
  | unknown (i : Instr) (s : State) (hi : isTokenClass i = true) (hp : s.phase = Phase.classify) :
      Effect i s s.classifyUnknown
  | clear (s : State) (hp : s.phase = Phase.clear) : Effect .clear s (s.dropReady.setPhase Phase.ack)
  | ackLast (s : State) (b : Byte) (hp : s.phase = Phase.ack) (hb : s.ackBuf[s.ackI.toNat]? = some b)
      (hl : s.ackI.toNat + 1 = s.ackLen.toNat) :
      Effect .ack s (((s.emit [b]).setAckPos 0#5 0#5).setPhase Phase.idle)
  | ackNext (s : State) (b : Byte) (hp : s.phase = Phase.ack) (hb : s.ackBuf[s.ackI.toNat]? = some b)
      (hl : s.ackI.toNat + 1 ≠ s.ackLen.toNat) :
      Effect .ack s ((s.emit [b]).setAckPos s.ackLen (s.ackI + 1#5))
  | reset (s : State) :
      Effect .reset s
        ((((((((s.setHead 0).setTail 0).setReady false).setShared 0#8 0#8 0#10 0#10).setPhase Phase.idle).setAckPos
          0#5 0#5).setHeld false).setGhost { s.ghost with termSincePoll := false, accepted := 0, popped := 0 })

theorem Effect.of_command {i : Instr} {s t : State} {w : BitVec 32} {n : Nat} (hi : isTokenClass i = true)
    (hn : n ≤ scanLast) (h : s.runCommand w n = .next t) : Effect i s t := by
  obtain ⟨hp, -, ht⟩ := State.whenToken_next.1 h
  cases ht; exact .table i s n hi hp hn

theorem Effect.of_fetch {i : Instr} {k : Nat} {s t : State} {p : BitVec 4}
    (hi : (i, k) ∈ [(Instr.fetch0, 0), (.fetch1, 1), (.fetch2, 2), (.fetch3, 3)]) (hk : p.toNat = k + 1)
    (h : s.atPhase p (s.fetchChar k) = .next t) : Effect i s t := by
  obtain ⟨hp, hf⟩ := State.atPhase_next.1 h
  obtain ⟨v, u, hu, ⟨hv, rfl⟩ | ⟨hv, rfl⟩⟩ := State.fetchChar_next hf
  · exact .fetchEnd i k s v u hi (by rw [hp, hk]) hu hv
  · exact .fetchChar i k s v u hi (by rw [hp, hk]) hu hv

/-- An operation that completes has one of the effects. -/
theorem exec_effect {i : Instr} {s t : State} (h : exec i s = .next t) : Effect i s t := by
  cases i
  case rxTerm =>
    simp only [exec, execRxTerm] at h
    split at h
    · cases h
    · next u hu =>
      obtain ⟨ok, s1, hp, rfl⟩ := State.takeRx_cases hu
      cases h; exact .rxTerm s ok s1 hp
  case rxData b =>
    simp only [exec, execRxData] at h
    split at h
    · cases h
    · split at h
      · cases h
      · next hb _ u hu =>
        obtain ⟨ok, s1, hp, rfl⟩ := State.takeRx_cases hu
        cases h; exact .rxData s b ok s1 hb hp
  case nop => obtain ⟨hp, -, ht⟩ := State.whenIdle_next.1 h; cases ht; exact .still _ s (by simp) hp
  case hopReserved low => obtain ⟨hp, -, ht⟩ := State.whenIdle_next.1 h; cases ht; exact .still _ s (by simp) hp
  case pollNoframe =>
    obtain ⟨hp, -, ht⟩ := State.whenIdle_next.1 h
    split at ht <;> cases ht
    exact .still _ s (by simp) hp
  case pollFrame =>
    obtain ⟨hp, hh, ht⟩ := State.whenIdle_next.1 h
    split at ht <;> cases ht
    exact .poll s hp hh ‹_›
  case readWait =>
    simp only [exec, execReadWait] at h
    split at h
    · split at h
      · cases h; exact .hold s ‹_› ‹_›
      · split at h
        · cases h
        · next u hu => cases h; exact .readWait s _ _ ‹_› ‹_› hu
    · cases h
  case count => obtain ⟨hp, -, ht⟩ := State.whenIdle_next.1 h; cases ht; exact .output _ s _ (.inl ⟨rfl, hp⟩)
  case push b =>
    simp only [exec, execPush] at h
    split at h <;> cases h
    exact .push s b _ _ ‹_›
  case pop =>
    simp only [exec, execPop] at h
    split at h <;> cases h
    exact .pop s _ _ ‹_›
  case rbCount => cases h; exact .output _ s _ (.inr (.inl rfl))
  case fetch0 => exact .of_fetch (by simp) rfl h
  case fetch1 => exact .of_fetch (by simp) rfl h
  case fetch2 => exact .of_fetch (by simp) rfl h
  case fetch3 => exact .of_fetch (by simp) rfl h
  case drain =>
    obtain ⟨hp, ht⟩ := State.atPhase_next.1 h
    split at ht <;> cases ht
    exact .drain s _ _ hp ‹_›
  case classify =>
    obtain ⟨hp, ht⟩ := State.atPhase_next.1 h
    split at ht <;> cases ht
    · next n hn =>
      refine .table _ s n rfl hp ?_
      unfold classOf at hn
      split at hn
      · next j hj => cases hn; exact (scan_some hj).1
      · split at hn <;> cases hn
    · exact .page _ s rfl hp
    · exact .unknown _ s rfl hp
  case clear => obtain ⟨hp, ht⟩ := State.atPhase_next.1 h; cases ht; exact .clear s hp
  case ack =>
    obtain ⟨hp, ht⟩ := State.atPhase_next.1 h
    split at ht
    · cases ht
    · split at ht
      · cases ht
      · split at ht <;> cases ht
        · exact .ackLast s _ hp ‹_› ‹_›
        · exact .ackNext s _ hp ‹_› ‹_›
  case idle => obtain ⟨hp, ht⟩ := State.atPhase_next.1 h; cases ht; exact .still _ s (by simp) hp
  case phaseUnused p => cases h
  case mReserved => obtain ⟨hp, -, ht⟩ := State.whenToken_next.1 h; cases ht; exact .unknown _ s rfl hp
  case motionPage b c d => obtain ⟨hp, -, ht⟩ := State.whenToken_next.1 h; cases ht; exact .page _ s rfl hp
  case notFound a b c d => obtain ⟨hp, -, ht⟩ := State.whenToken_next.1 h; cases ht; exact .unknown _ s rfl hp
  case reset => cases h; exact .reset s
  case stRead wide a =>
    simp only [exec, execStRead] at h
    split at h
    · split at h
      · cases h; exact .output _ s _ (.inr (.inr ⟨wide, a, rfl⟩))
      · cases h
    · cases h; exact .output _ s _ (.inr (.inr ⟨wide, a, rfl⟩))
  all_goals exact .of_command rfl (by decide) h

end Sys2Proof.Machine
end

