-- ==== Sys2Proof/Laws/Flags.lean ====
section
/-! SUPPORT. One lemma per field for the updates that are made of others: the two writes of `frame_ready`, and the end that
the outcomes of CLASSIFY share. -/

namespace Sys2Proof.Machine

variable (s : State)

@[simp] theorem State.raiseReady_cfg : s.raiseReady.cfg = s.cfg := rfl
@[simp] theorem State.raiseReady_curCmd : s.raiseReady.curCmd = s.curCmd := rfl
@[simp] theorem State.raiseReady_prevCmd : s.raiseReady.prevCmd = s.prevCmd := rfl
@[simp] theorem State.raiseReady_curMp : s.raiseReady.curMp = s.curMp := rfl
@[simp] theorem State.raiseReady_prevMp : s.raiseReady.prevMp = s.prevMp := rfl
@[simp] theorem State.raiseReady_frameReady : s.raiseReady.frameReady = true := rfl
@[simp] theorem State.raiseReady_head : s.raiseReady.head = s.head := rfl
@[simp] theorem State.raiseReady_tail : s.raiseReady.tail = s.tail := rfl
@[simp] theorem State.raiseReady_rb : s.raiseReady.rb = s.rb := rfl
@[simp] theorem State.raiseReady_rom : s.raiseReady.rom = s.rom := rfl
@[simp] theorem State.raiseReady_phase : s.raiseReady.phase = s.phase := rfl
@[simp] theorem State.raiseReady_tok : s.raiseReady.tok = s.tok := rfl
@[simp] theorem State.raiseReady_kind : s.raiseReady.kind = s.kind := rfl
@[simp] theorem State.raiseReady_ackBuf : s.raiseReady.ackBuf = s.ackBuf := rfl
@[simp] theorem State.raiseReady_ackLen : s.raiseReady.ackLen = s.ackLen := rfl
@[simp] theorem State.raiseReady_ackI : s.raiseReady.ackI = s.ackI := rfl
@[simp] theorem State.raiseReady_readHeld : s.raiseReady.readHeld = s.readHeld := rfl
@[simp] theorem State.raiseReady_tx : s.raiseReady.tx = s.tx := rfl
@[simp] theorem State.raiseReady_sched : s.raiseReady.sched = s.sched := rfl
@[simp] theorem State.raiseReady_out : s.raiseReady.out = s.out := rfl
@[simp] theorem State.raiseReady_draws : s.raiseReady.draws = s.draws := rfl
@[simp] theorem State.raiseReady_env : s.raiseReady.env = s.env := rfl
@[simp] theorem State.raiseReady_ghost : s.raiseReady.ghost = { s.ghost with termSincePoll := true } := rfl
@[simp] theorem State.raiseReady_count : s.raiseReady.count = s.count := rfl

@[simp] theorem State.dropReady_cfg : s.dropReady.cfg = s.cfg := by
  simp [State.dropReady]
@[simp] theorem State.dropReady_curCmd : s.dropReady.curCmd = s.curCmd := by
  simp [State.dropReady]
@[simp] theorem State.dropReady_prevCmd : s.dropReady.prevCmd = s.prevCmd := by
  simp [State.dropReady]
@[simp] theorem State.dropReady_curMp : s.dropReady.curMp = s.curMp := by
  simp [State.dropReady]
@[simp] theorem State.dropReady_prevMp : s.dropReady.prevMp = s.prevMp := by
  simp [State.dropReady]
@[simp] theorem State.dropReady_frameReady : s.dropReady.frameReady = false := rfl
@[simp] theorem State.dropReady_head : s.dropReady.head = s.head := by
  simp [State.dropReady]
@[simp] theorem State.dropReady_tail : s.dropReady.tail = s.tail := by
  simp [State.dropReady]
@[simp] theorem State.dropReady_rb : s.dropReady.rb = s.rb := by
  simp [State.dropReady]
@[simp] theorem State.dropReady_rom : s.dropReady.rom = s.rom := by
  simp [State.dropReady]
@[simp] theorem State.dropReady_phase : s.dropReady.phase = s.phase := by
  simp [State.dropReady]
@[simp] theorem State.dropReady_tok : s.dropReady.tok = s.tok := by
  simp [State.dropReady]
@[simp] theorem State.dropReady_kind : s.dropReady.kind = s.kind := by
  simp [State.dropReady]
@[simp] theorem State.dropReady_ackBuf : s.dropReady.ackBuf = s.ackBuf := by
  simp [State.dropReady]
@[simp] theorem State.dropReady_ackLen : s.dropReady.ackLen = s.ackLen := by
  simp [State.dropReady]
@[simp] theorem State.dropReady_ackI : s.dropReady.ackI = s.ackI := by
  simp [State.dropReady]
@[simp] theorem State.dropReady_readHeld : s.dropReady.readHeld = s.readHeld := by
  simp [State.dropReady]
@[simp] theorem State.dropReady_tx : s.dropReady.tx = s.tx := by
  simp [State.dropReady]
@[simp] theorem State.dropReady_sched : s.dropReady.sched = s.sched := by
  simp [State.dropReady]
@[simp] theorem State.dropReady_out : s.dropReady.out = s.out := by
  simp [State.dropReady]
@[simp] theorem State.dropReady_draws : s.dropReady.draws = s.draws := by
  simp [State.dropReady]
@[simp] theorem State.dropReady_env : s.dropReady.env = s.env := by
  simp [State.dropReady]

@[simp] theorem State.finishClassify_cfg (k : BitVec 2) (line : List Byte) :
    (s.finishClassify k line).cfg = s.cfg := rfl
@[simp] theorem State.finishClassify_curCmd (k : BitVec 2) (line : List Byte) :
    (s.finishClassify k line).curCmd = s.curCmd := rfl
@[simp] theorem State.finishClassify_prevCmd (k : BitVec 2) (line : List Byte) :
    (s.finishClassify k line).prevCmd = s.prevCmd := rfl
@[simp] theorem State.finishClassify_curMp (k : BitVec 2) (line : List Byte) :
    (s.finishClassify k line).curMp = s.curMp := rfl
@[simp] theorem State.finishClassify_prevMp (k : BitVec 2) (line : List Byte) :
    (s.finishClassify k line).prevMp = s.prevMp := rfl
@[simp] theorem State.finishClassify_frameReady (k : BitVec 2) (line : List Byte) :
    (s.finishClassify k line).frameReady = s.frameReady := rfl
@[simp] theorem State.finishClassify_head (k : BitVec 2) (line : List Byte) :
    (s.finishClassify k line).head = s.head := rfl
@[simp] theorem State.finishClassify_tail (k : BitVec 2) (line : List Byte) :
    (s.finishClassify k line).tail = s.tail := rfl
@[simp] theorem State.finishClassify_rb (k : BitVec 2) (line : List Byte) :
    (s.finishClassify k line).rb = s.rb := rfl
@[simp] theorem State.finishClassify_rom (k : BitVec 2) (line : List Byte) :
    (s.finishClassify k line).rom = s.rom := rfl
@[simp] theorem State.finishClassify_phase (k : BitVec 2) (line : List Byte) :
    (s.finishClassify k line).phase = Phase.clear := rfl
@[simp] theorem State.finishClassify_tok (k : BitVec 2) (line : List Byte) :
    (s.finishClassify k line).tok = s.tok := rfl
@[simp] theorem State.finishClassify_kind (k : BitVec 2) (line : List Byte) :
    (s.finishClassify k line).kind = k := rfl
@[simp] theorem State.finishClassify_ackBuf (k : BitVec 2) (line : List Byte) :
    (s.finishClassify k line).ackBuf = overwrite line s.ackBuf := rfl
@[simp] theorem State.finishClassify_ackLen (k : BitVec 2) (line : List Byte) :
    (s.finishClassify k line).ackLen = BitVec.ofNat 5 line.length := rfl
@[simp] theorem State.finishClassify_ackI (k : BitVec 2) (line : List Byte) :
    (s.finishClassify k line).ackI = 0#5 := rfl
@[simp] theorem State.finishClassify_readHeld (k : BitVec 2) (line : List Byte) :
    (s.finishClassify k line).readHeld = s.readHeld := rfl
@[simp] theorem State.finishClassify_tx (k : BitVec 2) (line : List Byte) :
    (s.finishClassify k line).tx = s.tx := rfl
@[simp] theorem State.finishClassify_sched (k : BitVec 2) (line : List Byte) :
    (s.finishClassify k line).sched = s.sched := rfl
@[simp] theorem State.finishClassify_out (k : BitVec 2) (line : List Byte) :
    (s.finishClassify k line).out = s.out := rfl
@[simp] theorem State.finishClassify_draws (k : BitVec 2) (line : List Byte) :
    (s.finishClassify k line).draws = s.draws := rfl
@[simp] theorem State.finishClassify_env (k : BitVec 2) (line : List Byte) :
    (s.finishClassify k line).env = s.env := rfl
@[simp] theorem State.finishClassify_ghost (k : BitVec 2) (line : List Byte) :
    (s.finishClassify k line).ghost = s.ghost := rfl

end Sys2Proof.Machine
end

