-- ==== Sys2Proof/Laws/PerInstr.lean ====
section
/-! SUPPORT. One fact per operation of the table: its word has the format the table gives its row. -/

namespace Sys2Proof

/-- The "format" column of spec/opcode_table.json. -/
def Instr.tableFormat : Instr → Format
  | .rxTerm | .rxData _ => .rxb8
  | .nop | .pollNoframe | .pollFrame | .readWait | .count | .hopReserved _ => .hop3
  | .push _ | .pop | .rbCount => .rbp
  | .fetch0 | .fetch1 | .fetch2 | .fetch3 | .drain | .classify | .clear | .ack | .idle | .phaseUnused _ => .seq4
  | .cmdStop | .cmdWf | .cmdWb | .cmdWlt | .cmdWrt | .cmdWls | .cmdWrs | .cmdWfls | .cmdWfrs | .cmdWbls | .cmdWbrs
  | .cmdWal | .cmdWar | .cmdWflt | .cmdWfrt | .cmdWblt | .cmdWbrt | .cmdSit | .cmdBal | .mReserved
  | .motionPage _ _ _ | .notFound _ _ _ _ => .tok32
  | .reset => .rst
  | .stRead _ _ => .strd

end Sys2Proof

namespace Sys2Proof.Laws.EncodedFormat

/-- The encoder gives the operation a word of its row's format. -/
def Statement (i : Instr) : Prop := (encode i).format = i.tableFormat

theorem rxTerm : Statement (.rxTerm) := rfl
theorem rxData (b : Byte) : Statement (.rxData b) := rfl
theorem nop : Statement (.nop) := rfl
theorem pollNoframe : Statement (.pollNoframe) := rfl
theorem pollFrame : Statement (.pollFrame) := rfl
theorem readWait : Statement (.readWait) := rfl
theorem count : Statement (.count) := rfl
theorem hopReserved (low : BitVec 2) : Statement (.hopReserved low) := rfl
theorem push (b : Byte) : Statement (.push b) := rfl
theorem pop : Statement (.pop) := rfl
theorem rbCount : Statement (.rbCount) := rfl
theorem fetch0 : Statement (.fetch0) := rfl
theorem fetch1 : Statement (.fetch1) := rfl
theorem fetch2 : Statement (.fetch2) := rfl
theorem fetch3 : Statement (.fetch3) := rfl
theorem drain : Statement (.drain) := rfl
theorem classify : Statement (.classify) := rfl
theorem clear : Statement (.clear) := rfl
theorem ack : Statement (.ack) := rfl
theorem idle : Statement (.idle) := rfl
theorem phaseUnused (p : BitVec 4) : Statement (.phaseUnused p) := rfl
theorem cmdStop : Statement (.cmdStop) := rfl
theorem cmdWf : Statement (.cmdWf) := rfl
theorem cmdWb : Statement (.cmdWb) := rfl
theorem cmdWlt : Statement (.cmdWlt) := rfl
theorem cmdWrt : Statement (.cmdWrt) := rfl
theorem cmdWls : Statement (.cmdWls) := rfl
theorem cmdWrs : Statement (.cmdWrs) := rfl
theorem cmdWfls : Statement (.cmdWfls) := rfl
theorem cmdWfrs : Statement (.cmdWfrs) := rfl
theorem cmdWbls : Statement (.cmdWbls) := rfl
theorem cmdWbrs : Statement (.cmdWbrs) := rfl
theorem cmdWal : Statement (.cmdWal) := rfl
theorem cmdWar : Statement (.cmdWar) := rfl
theorem cmdWflt : Statement (.cmdWflt) := rfl
theorem cmdWfrt : Statement (.cmdWfrt) := rfl
theorem cmdWblt : Statement (.cmdWblt) := rfl
theorem cmdWbrt : Statement (.cmdWbrt) := rfl
theorem cmdSit : Statement (.cmdSit) := rfl
theorem cmdBal : Statement (.cmdBal) := rfl
theorem mReserved : Statement (.mReserved) := rfl
theorem motionPage (b c d : Byte) : Statement (.motionPage b c d) := rfl
theorem notFound (a b c d : Byte) : Statement (.notFound a b c d) := rfl
theorem reset : Statement (.reset) := rfl
theorem stRead (wide : Bool) (addr : BitVec 4) : Statement (.stRead wide addr) := rfl

end Sys2Proof.Laws.EncodedFormat
end

