-- ==== Sys2Proof/Laws/Step.lean ====
section
/-! SUPPORT. Taking the trace's next item off changes only the environment's part, and everything a step that completes can
do. -/

namespace Sys2Proof.Machine

variable (s : State)

/-! ### The next round -/

@[simp] theorem State.refill_cons {x : Stimulus} {rest : List Stimulus} (h : s.sched = x :: rest) : s.refill = s := by
  simp only [State.refill, h]

@[simp] theorem State.refill_quiet (h : s.env.endless = false) : s.refill = s := by
  unfold State.refill
  split
  · rw [h]; rfl
  · rfl

theorem State.refill_endless (h : s.sched = []) (he : s.env.endless = true) : s.refill = s.drawRound := by
  simp only [State.refill, h, he, if_true]

/-- A round is what arrives from outside, then one turn of the poll context: a HOST request only when the poll context can
take one. Only the trace and what follows it change. -/
theorem State.drawRound_cases :
    ∃ arrived, (∀ x ∈ arrived, fromOutside x = true) ∧
      ((s.takesRequest = true ∧ s.env.polls = true ∧
          s.drawRound = s.setRound (arrived ++ [.host s.env.request.1])
            { s.env with rounds := s.env.rounds + 1, ahead := s.env.request.2 }) ∨
       ((s.takesRequest = false ∨ s.env.polls = false) ∧
          s.drawRound = s.setRound (arrived ++ [.turn]) { s.env with rounds := s.env.rounds + 1 })) := by
  refine ⟨(Config.arrivals s.env.rounds).filter fromOutside, fun x hx => (List.mem_filter.1 hx).2, ?_⟩
  unfold State.drawRound
  split
  · next h => exact .inl ⟨(Bool.and_eq_true_iff.1 h).1, (Bool.and_eq_true_iff.1 h).2, rfl⟩
  · next h =>
    refine .inr ⟨?_, rfl⟩
    cases h1 : s.takesRequest <;> cases h2 : s.env.polls <;> simp_all

theorem State.refill_eq : s.refill = s.setRound s.refill.sched s.refill.env := by
  unfold State.refill
  split
  · split
    · obtain ⟨arrived, -, ⟨-, -, h⟩ | ⟨-, h⟩⟩ := s.drawRound_cases <;> rw [h] <;> rfl
    · rfl
  · rfl

@[simp] theorem State.refill_frameReady : s.refill.frameReady = s.frameReady := by rw [s.refill_eq]; rfl
@[simp] theorem State.refill_phase : s.refill.phase = s.phase := by rw [s.refill_eq]; rfl
@[simp] theorem State.refill_readHeld : s.refill.readHeld = s.readHeld := by rw [s.refill_eq]; rfl
@[simp] theorem State.refill_draws : s.refill.draws = s.draws := by rw [s.refill_eq]; rfl
@[simp] theorem State.refill_pollWord : s.refill.pollWord = s.pollWord := by rw [s.refill_eq]; rfl

/-- Drawing a round leaves the next step as it is: the step draws it itself. -/
theorem State.refill_refill : s.refill.refill = s.refill := by
  cases h : s.sched with
  | cons x rest => rw [s.refill_cons h, s.refill_cons h]
  | nil =>
    cases he : s.env.endless with
    | false => rw [s.refill_quiet he, s.refill_quiet he]
    | true =>
      rw [s.refill_endless h he]
      obtain ⟨arrived, -, ⟨-, -, hr⟩ | ⟨-, hr⟩⟩ := s.drawRound_cases <;> rw [hr] <;> cases arrived <;> rfl

/-! ### Taking the next item off -/

/-- Only the trace, what follows it and the draws change. -/
theorem State.consume_eq :
    s.consume = (s.setRound s.consume.sched s.consume.env).setTrace s.consume.sched s.consume.draws := by
  unfold State.consume
  split <;> rw [s.refill_eq] <;> rfl

@[simp] theorem State.consume_cfg : s.consume.cfg = s.cfg := by rw [State.consume_eq]; rfl
@[simp] theorem State.consume_curCmd : s.consume.curCmd = s.curCmd := by rw [State.consume_eq]; rfl
@[simp] theorem State.consume_prevCmd : s.consume.prevCmd = s.prevCmd := by rw [State.consume_eq]; rfl
@[simp] theorem State.consume_curMp : s.consume.curMp = s.curMp := by rw [State.consume_eq]; rfl
@[simp] theorem State.consume_prevMp : s.consume.prevMp = s.prevMp := by rw [State.consume_eq]; rfl
@[simp] theorem State.consume_frameReady : s.consume.frameReady = s.frameReady := by rw [State.consume_eq]; rfl
@[simp] theorem State.consume_head : s.consume.head = s.head := by rw [State.consume_eq]; rfl
@[simp] theorem State.consume_tail : s.consume.tail = s.tail := by rw [State.consume_eq]; rfl
@[simp] theorem State.consume_rb : s.consume.rb = s.rb := by rw [State.consume_eq]; rfl
@[simp] theorem State.consume_rom : s.consume.rom = s.rom := by rw [State.consume_eq]; rfl
@[simp] theorem State.consume_phase : s.consume.phase = s.phase := by rw [State.consume_eq]; rfl
@[simp] theorem State.consume_tok : s.consume.tok = s.tok := by rw [State.consume_eq]; rfl
@[simp] theorem State.consume_kind : s.consume.kind = s.kind := by rw [State.consume_eq]; rfl
@[simp] theorem State.consume_ackBuf : s.consume.ackBuf = s.ackBuf := by rw [State.consume_eq]; rfl
@[simp] theorem State.consume_ackLen : s.consume.ackLen = s.ackLen := by rw [State.consume_eq]; rfl
@[simp] theorem State.consume_ackI : s.consume.ackI = s.ackI := by rw [State.consume_eq]; rfl
@[simp] theorem State.consume_readHeld : s.consume.readHeld = s.readHeld := by rw [State.consume_eq]; rfl
@[simp] theorem State.consume_tx : s.consume.tx = s.tx := by rw [State.consume_eq]; rfl
@[simp] theorem State.consume_out : s.consume.out = s.out := by rw [State.consume_eq]; rfl
@[simp] theorem State.consume_ghost : s.consume.ghost = s.ghost := by rw [State.consume_eq]; rfl
@[simp] theorem State.consume_count : s.consume.count = s.count := by rw [State.consume_eq]; rfl
@[simp] theorem State.consume_contents : s.consume.contents = s.contents := by rw [State.consume_eq]; rfl

/-- A step draws the next round itself. -/
theorem step_refill : step s.refill = step s := by
  have hn : s.refill.nextWord = s.nextWord := by unfold State.nextWord; rw [s.refill_refill, s.refill_pollWord]
  have hc : s.refill.consume = s.consume := by unfold State.consume; rw [s.refill_refill, s.refill_draws]
  unfold step
  rw [hn, hc, s.refill_frameReady]

/-- A step that completes is a write to the status view, which changes nothing else, or the effect of the operation that
the next port bits decode to. -/
theorem step_cases {s t : State} (h : step s = .next t) :
    (∃ a d rest, s.refill.sched = .stWrite a d :: rest ∧ t = s.consume) ∨
    (∃ w i, s.nextWord = some w ∧ decode s.frameReady w = .ok i ∧ exec i s.consume = .next t ∧ Effect i s.consume t) := by
  unfold step at h
  split at h
  · next hw =>
    refine .inl ?_
    unfold State.nextWord at hw
    split at hw <;> first | cases hw | skip
    cases h; exact ⟨_, _, _, ‹_›, rfl⟩
  · next w hw =>
    split at h
    · next i hi => exact .inr ⟨w, i, hw, hi, h, exec_effect h⟩
    · cases h

/-- A run of one step more. -/
theorem run_succ {k : Nat} {s t : State} (h : step s = .next t) :
    Host.Core.run core (k + 1) s = Host.Core.run core k t := by
  have hs : core.step s = .next t := h
  simp only [Host.Core.run, hs]

/-- A run goes on from where a shorter one ends. -/
theorem run_add {j k : Nat} {s t : State} (h : Host.Core.run core j s = .next t) :
    Host.Core.run core (j + k) s = Host.Core.run core k t := by
  induction j generalizing s with
  | zero => cases h; rw [Nat.zero_add]
  | succ j ih =>
    simp only [Host.Core.run] at h
    split at h
    · next u hu => rw [show j + 1 + k = (j + k) + 1 by omega, run_succ (k := j + k) (t := u) hu]; exact ih h
    · cases h
    · cases h

end Sys2Proof.Machine
end

