-- ==== Sys2Proof/Laws/Token.lean ====
section
/-! SUPPORT. A token and its word say the same; and what a token row's look-up can answer. -/

namespace Sys2Proof

theorem Token.ofWord_append (a b c d : Byte) : Token.ofWord (a ++ b ++ c ++ d) = ⟨a, b, c, d⟩ := by
  simp only [Token.ofWord, Token.mk.injEq]
  refine ⟨?_, ?_, ?_, ?_⟩ <;>
    (apply BitVec.eq_of_getLsbD_eq
     intro i hi
     simp only [BitVec.getLsbD_extractLsb', BitVec.getLsbD_append]
     repeat' split
     all_goals first
       | omega
       | (simp only [hi, decide_true, Bool.true_and]; congr 1; omega))

theorem Token.ofWord_toWord (t : Token) : Token.ofWord t.toWord = t := Token.ofWord_append t.t0 t.t1 t.t2 t.t3

theorem Token.toWord_ofWord (w : BitVec 32) : (Token.ofWord w).toWord = w := by
  apply BitVec.eq_of_getLsbD_eq
  intro i hi
  simp only [Token.toWord, Token.ofWord, BitVec.getLsbD_append, BitVec.getLsbD_extractLsb']
  repeat' split
  all_goals
    rw [show ∀ (p : Prop) [Decidable p] (x : Bool), p → (decide p && x) = x from fun p _ x hp => by simp [hp]]
    · congr 1; omega
    · omega

/-- A row the look-up finds is a row of the list, under its own match value. -/
theorem lookupTok_some {w : BitVec 32} {rows : List (BitVec 32 × Instr)} {i : Instr}
    (h : lookupTok w rows = some i) : (w, i) ∈ rows := by
  induction rows with
  | nil => simp [lookupTok] at h
  | cons r rs ih =>
    simp only [lookupTok] at h
    split at h
    · next hr => cases h; subst hr; simp
    · exact List.mem_cons_of_mem _ (ih h)

/-- The look-up finds nothing exactly when no row has the word as its match value. -/
theorem lookupTok_none {w : BitVec 32} {rows : List (BitVec 32 × Instr)} :
    lookupTok w rows = none ↔ ∀ r ∈ rows, r.1 ≠ w := by
  induction rows with
  | nil => simp [lookupTok]
  | cons r rs ih => by_cases hr : r.1 = w <;> simp [lookupTok, hr, ih]

/-- The words of the token rows are the tokens of ROM, entry by entry. -/
theorem tokRows_tokens : tokRows.map (fun r => Token.ofWord r.1) = Machine.commandRom := by decide

end Sys2Proof
end

