-- ==== Sys2Proof/Tests/Slice0.lean ====
section
/-! SUPPORT. Small tests: ill-formed terms, words written out from the spec's encodings, one step per operation with the
results of 95_test_vectors.md, and for every statement with hypotheses a state and operands that meet them. -/

namespace Sys2Proof.Tests

open Sys2Proof Sys2Proof.Machine

/-! ### Helpers -/

/-- RB with storage size `n` holds `bs`, the oldest byte at index `h`; all else as after RESET. -/
def ring (n h : Nat) (bs : List Byte) : State :=
  { State.resetWith { n := n, notFoundOrd := 20#8 } with
    head := h, tail := (h + bs.length) % n
    rb := (bs.zipIdx.map (fun c => ((h + c.2) % n, c.1))).foldl (fun m c => Memory.write m c.1 c.2) [] }

/-- The poll context at phase `p`. -/
def atPhase (p : BitVec 4) (s : State) : State := { s with phase := p }

/-- CLASSIFY with the token `t`. -/
def classifying (t : Token) : State := { State.reset with phase := Phase.classify, tok := t }

/-- ACK of the line `"WF   - Command # 1\n> "` at position `i`. -/
def acking (i : BitVec 5) : State :=
  { State.reset with
    phase := Phase.ack, ackLen := 21#5, ackI := i
    ackBuf := [0x57#8, 0x46#8, 0x20#8, 0x20#8] ++
      [0x20#8, 0x2D#8, 0x20#8, 0x43#8, 0x6F#8, 0x6D#8, 0x6D#8, 0x61#8, 0x6E#8, 0x64#8, 0x20#8, 0x23#8, 0x20#8, 0x31#8,
       0x0A#8, 0x3E#8, 0x20#8] ++ List.replicate 10 0#8 }

/-- CLEAR with a line composed. -/
def clearing : State := { State.reset with phase := Phase.clear, ackLen := 21#5, frameReady := true }

/-- The operation completes and the next state is as `p` says. -/
def gives (r : Result) (p : State → Bool) : Bool :=
  match r with
  | .next t => p t
  | .fault _ => false
  | .refused _ => false

/-- The operation is refused with this reason. -/
def refuses (r : Result) (why : Refusal) : Bool :=
  match r with
  | .refused x => decide (x = why)
  | .next _ => false
  | .fault _ => false

/-- The operation faults with this reason. -/
def faults (r : Result) (why : Fault) : Bool :=
  match r with
  | .fault x => decide (x = why)
  | .next _ => false
  | .refused _ => false

/-- `Legal`, from its clauses as data that `decide` looks at. -/
theorem legal_of (s : State)
    (h : (s.cfg.wf ∧ s.rom = commandRom ∧ s.head < s.cfg.n ∧ s.tail < s.cfg.n ∧ Memory.wf s.rb = true) ∧
      (∀ c ∈ s.rb, c.1 < s.cfg.n) ∧ (∀ k < s.count, (Memory.read s.rb ((s.head + k) % s.cfg.n)).isSome = true) ∧
      (legalOrd s.cfg s.curCmd ∧ legalOrd s.cfg s.prevCmd ∧ s.curMp.toNat ≤ 999 ∧ s.prevMp.toNat ≤ 999) ∧
      (s.phase.toNat ≤ 8 ∧ (s.phase = Phase.clear ∨ s.phase = Phase.ack → s.kind ≠ Kind.unused) ∧ s.ackBuf.length = ackMax ∧ ackPosLegal s) ∧
      (s.readHeld = true → s.phase = Phase.idle) ∧
      (∀ c ∈ s.tok.chars.take (fetched s.phase), tokenChar c = true)) : Legal s := by
  obtain ⟨⟨a, b, c, d, e⟩, f, g, ⟨i, j, k, l⟩, ⟨m, n, o, p⟩, q, r⟩ := h
  exact ⟨a, b, c, d, e, f, g, i, j, k, l, m, n, o, p, q, r⟩

/-- `Legal` says nothing about the trace. -/
theorem legal_with_trace {s : State} (h : Legal s) (tr : List Stimulus) : Legal { s with sched := tr } :=
  ⟨h.cfg_wf, h.rom_fixed, h.head_lt, h.tail_lt, h.rb_wf, h.rb_inside, h.occupied, h.cur_cmd_legal, h.prev_cmd_legal,
    h.cur_mp_le, h.prev_mp_le, h.phase_named, h.kind_used, h.ack_buf_length, h.ack_pos, h.held_idle, h.tok_chars⟩

/-! ### Well-formed terms: one ill-formed term for each check -/

theorem test_wf_rx_data_is_not_the_terminator : (Instr.rxData 0x0D#8).wf = false := by decide
theorem test_wf_unused_phases_start_at_9 : (Instr.phaseUnused 8#4).wf = false := by decide
theorem test_wf_motion_page_needs_a_digit : (Instr.motionPage 0x58#8 0x20#8 0x20#8).wf = false := by decide
theorem test_wf_not_found_is_no_page_form : (Instr.notFound 0x4D#8 0x35#8 0x20#8 0x20#8).wf = false := by decide
theorem test_wf_not_found_is_no_table_token : (Instr.notFound 0x53#8 0x54#8 0x4F#8 0x50#8).wf = false := by decide
theorem test_wf_not_found_is_not_m_alone : (Instr.notFound 0x4D#8 0x20#8 0x20#8 0x20#8).wf = false := by decide
theorem test_wf_wide_read_needs_an_even_offset : (Instr.stRead true 0x3#4).wf = false := by decide
theorem test_wf_accepts : (Instr.rxData 0xFF#8).wf = true ∧ (Instr.phaseUnused 9#4).wf = true ∧
    (Instr.motionPage 0x39#8 0#8 0xFF#8).wf = true ∧ (Instr.notFound 0x5A#8 0x5A#8 0x5A#8 0x5A#8).wf = true ∧
    (Instr.stRead true 0xE#4).wf = true ∧ (Instr.stRead false 0x3#4).wf = true := by decide

/-! ### Decoding, every constructor, words from 30_encoding.md, 43_command_table.md and the opcode table -/

theorem test_decode_rx : decode false (.rxb8 0b00001101#8) = .ok .rxTerm ∧
    decode false (.rxb8 0b00000000#8) = .ok (.rxData 0x00#8) ∧ decode true (.rxb8 0b11111111#8) = .ok (.rxData 0xFF#8) := by
  decide

theorem test_decode_host : decode false (.hop3 0b000#3) = .ok .nop ∧ decode false (.hop3 0b001#3) = .ok .pollNoframe ∧
    decode true (.hop3 0b001#3) = .ok .pollFrame ∧ decode false (.hop3 0b010#3) = .ok .readWait ∧
    decode false (.hop3 0b011#3) = .ok .count ∧ decode false (.hop3 0b100#3) = .ok (.hopReserved 0b00#2) ∧
    decode false (.hop3 0b111#3) = .ok (.hopReserved 0b11#2) := by decide

theorem test_decode_ring : decode false (.rbp 0b10#2 0x41#8) = .ok (.push 0x41#8) ∧
    decode false (.rbp 0b01#2 0#8) = .ok .pop ∧ decode false (.rbp 0b00#2 0#8) = .ok .rbCount ∧
    decode false (.rbp 0b11#2 0#8) = .error .bothEnables := by decide

theorem test_decode_phase : decode false (.seq4 0#4) = .ok .idle ∧ decode false (.seq4 1#4) = .ok .fetch0 ∧
    decode false (.seq4 2#4) = .ok .fetch1 ∧ decode false (.seq4 3#4) = .ok .fetch2 ∧
    decode false (.seq4 4#4) = .ok .fetch3 ∧ decode false (.seq4 5#4) = .ok .drain ∧
    decode false (.seq4 6#4) = .ok .classify ∧ decode false (.seq4 7#4) = .ok .clear ∧
    decode false (.seq4 8#4) = .ok .ack ∧ decode false (.seq4 9#4) = .ok (.phaseUnused 9#4) ∧
    decode false (.seq4 15#4) = .ok (.phaseUnused 15#4) := by decide

theorem test_decode_token_low : decode false (.tok32 0x53544F50#32) = .ok .cmdStop ∧
    decode false (.tok32 0x57462020#32) = .ok .cmdWf ∧ decode false (.tok32 0x57422020#32) = .ok .cmdWb ∧
    decode false (.tok32 0x574C5420#32) = .ok .cmdWlt ∧ decode false (.tok32 0x57525420#32) = .ok .cmdWrt ∧
    decode false (.tok32 0x574C5320#32) = .ok .cmdWls ∧ decode false (.tok32 0x57525320#32) = .ok .cmdWrs ∧
    decode false (.tok32 0x57464C53#32) = .ok .cmdWfls ∧ decode false (.tok32 0x57465253#32) = .ok .cmdWfrs ∧
    decode false (.tok32 0x57424C53#32) = .ok .cmdWbls ∧ decode false (.tok32 0x57425253#32) = .ok .cmdWbrs := by decide

theorem test_decode_token_high : decode false (.tok32 0x57414C20#32) = .ok .cmdWal ∧
    decode false (.tok32 0x57415220#32) = .ok .cmdWar ∧ decode false (.tok32 0x57464C54#32) = .ok .cmdWflt ∧
    decode false (.tok32 0x57465254#32) = .ok .cmdWfrt ∧ decode false (.tok32 0x57424C54#32) = .ok .cmdWblt ∧
    decode false (.tok32 0x57425254#32) = .ok .cmdWbrt ∧ decode false (.tok32 0x53495420#32) = .ok .cmdSit ∧
    decode false (.tok32 0x42414C20#32) = .ok .cmdBal ∧ decode false (.tok32 0x4D202020#32) = .ok .mReserved ∧
    decode false (.tok32 0x4D352020#32) = .ok (.motionPage 0x35#8 0x20#8 0x20#8) ∧
    decode false (.tok32 0x5A5A5A5A#32) = .ok (.notFound 0x5A#8 0x5A#8 0x5A#8 0x5A#8) := by decide

theorem test_decode_platform : decode false (.rst 1#1) = .ok .reset ∧ decode false (.rst 0#1) = .error .resetNotAsserted ∧
    decode false (.strd false 0x6#4) = .ok (.stRead false 0x6#4) ∧
    decode false (.strd true 0x2#4) = .ok (.stRead true 0x2#4) := by decide

theorem test_decode_bytes : decodeBytes .tok32 false [0x53#8, 0x49#8, 0x54#8, 0x20#8] = .ok .cmdSit ∧
    decodeBytes .tok32 false [0x53#8] = .error .wrongLength ∧ decodeBytes .hop3 true [0x09#8] = .error .strayBits ∧
    decodeBytes .seq4 true [0x05#8] = .ok .drain := by decide

/-- The encoder on the operands' edges: all bits of each operand are in the word. -/
theorem test_encode : encode (.hopReserved 0b10#2) = .hop3 0b110#3 ∧ encode (.push 0xA5#8) = .rbp 0b10#2 0xA5#8 ∧
    encode (.motionPage 0x32#8 0x34#8 0x33#8) = .tok32 0x4D323433#32 ∧ encode .cmdBal = .tok32 0x42414C20#32 ∧
    encode (.stRead true 0xC#4) = .strd true 0xC#4 := by decide

theorem test_table_words : decodeTableWord 8 0x0D = some .rxTerm ∧ decodeTableWord 8 0x41 = some (.rxData 0x41#8) ∧
    decodeTableWord 8 0x06 = some .classify ∧ decodeTableWord 3 0b010 = some .readWait ∧
    decodeTableWord 2 0b01 = some .pop ∧ decodeTableWord 32 0x53495420 = some .cmdSit ∧
    decodeTableWord 0 0 = some .reset := by decide

/-! ### What there is at reset -/

theorem test_reset_memory : Memory.wf State.reset.rb = true ∧ State.reset.rb = [] := by decide

/-- 2.7: after reset the status view is `00 00 00 00 00 00 02 00 00 …`. -/
theorem test_reset_status :
    (List.range 16).map (fun i => State.reset.statusByte (BitVec.ofNat 4 i)) =
      [0#8, 0#8, 0#8, 0#8, 0#8, 0#8, 0x02#8, 0#8, 0#8, 0#8, 0#8, 0#8, 0#8, 0#8, 0#8, 0#8] := by decide

/-- R50: byte `4*i + j` of ROMSPACE; entry 17 is `"SIT "`. -/
theorem test_rom : (State.reset.romByte 0 0, State.reset.romByte 17 2, State.reset.romByte 17 3, State.reset.romByte 19 0) =
    (some 0x53#8, some 0x54#8, some 0x20#8, some 0x4D#8) := by decide

/-! ### Ring Buffer: 2.1 -/

theorem test_count_table : [(8, 0, 0), (8, 0, 7), (8, 6, 2), (8, 7, 6), (8, 3, 2), (2, 0, 1), (2, 1, 0), (3, 2, 0),
    (3, 1, 0)].map (fun r => { ring r.1 r.2.1 [] with tail := r.2.2 }.count) = [0, 7, 4, 7, 7, 1, 1, 1, 2] := by decide

theorem test_rb_count : gives (exec .rbCount { ring 8 6 [] with tail := 2 }) (fun t => t.out.ringCount == some 4) = true := by
  decide

/-- V-RB3 and V-RB4: `tail` wraps at N, which need not be a power of two. -/
theorem test_push_wraps :
    gives (exec (.push 0x41#8) (ring 8 7 []))
      (fun t => t.tail == 0 && t.count == 1 && t.contents == [0x41#8] && t.out.wrOk == some true) = true ∧
    gives (exec (.push 0x41#8) (ring 5 4 [])) (fun t => t.tail == 0 && t.count == 1) = true := by decide

/-- E1: the push of the Nth byte is refused. -/
theorem test_push_full : gives (exec (.push 0x08#8) (ring 8 0 [1#8, 2#8, 3#8, 4#8, 5#8, 6#8, 7#8]))
    (fun t => t.out.wrOk == some false && t.count == 7 && t.contents == [1#8, 2#8, 3#8, 4#8, 5#8, 6#8, 7#8]) = true := by
  decide

/-- V-RB2, a stored 0xFF is not an empty ring; and V-RB3, `head` wraps. -/
theorem test_pop_sentinel_or_empty :
    gives (exec .pop (ring 8 7 [0x41#8])) (fun t => t.out.rdData == some 0x41#8 && t.head == 0) = true ∧
    gives (exec .pop (ring 8 0 [0xFF#8]))
      (fun t => t.out.rdData == some 0xFF#8 && t.out.rdEmpty == some false && t.head == 1) = true ∧
    gives (exec .pop (ring 8 3 []))
      (fun t => t.out.rdData == some 0xFF#8 && t.out.rdEmpty == some true && t.head == 3) = true := by decide

/-- A slot that no PUSH wrote is not read: the state is one no run reaches. -/
theorem test_pop_unwritten_faults : faults (exec .pop { ring 8 0 [] with tail := 1 }) .ringUnwritten = true := by decide

/-! ### PRODUCER: 2.3 -/

theorem test_rx_term : gives (exec .rxTerm (ring 8 0 [0x41#8, 0xFF#8]))
    (fun t => t.frameReady && t.contents == [0x41#8, 0xFF#8, 0xFF#8] && t.tx == [0x0D#8, 0x0A#8]) = true := by decide

theorem test_rx_term_full : gives (exec .rxTerm (ring 8 0 (List.replicate 7 0x41#8)))
    (fun t => t.frameReady && t.contents == List.replicate 7 0x41#8 && t.tx == [0x0D#8, 0x0A#8] &&
      t.out.wrOk == some false && t.ghost.events == [.dropSent]) = true := by decide

theorem test_rx_data_full : gives (exec (.rxData 0x41#8) (ring 8 0 (List.replicate 7 0x42#8)))
    (fun t => !t.frameReady && t.contents == List.replicate 7 0x42#8 && t.tx == [0x41#8] && t.out.wrOk == some false &&
      t.ghost.events == [.dropData]) = true := by decide

theorem test_rx_data_raw : gives (exec (.rxData 0x77#8) State.reset)
    (fun t => !t.frameReady && t.contents == [0x77#8] && t.tx == [0x77#8] && t.head == 0 && t.tail == 1) = true := by decide

/-! ### HOST: 2.2 -/

/-- V-H1. -/
theorem test_read_wait : gives (exec .readWait (ring 8 0 [0x41#8, 0x42#8]))
    (fun t => t.out.hostRdata == some 0x41#8 && t.contents == [0x42#8] && t.head == 1 && t.tail == 2) = true := by decide

/-- V-H2, its first step. -/
theorem test_read_wait_holds : gives (exec .readWait State.reset)
    (fun t => t.readHeld && t.out.hostRdata == none && t.phase == Phase.idle) = true := by decide

theorem test_host_count : gives (exec .count (ring 8 6 [1#8, 2#8, 3#8, 4#8])) (fun t => t.out.hostCount == some 4#16) = true := by
  decide

/-- V-H4. -/
theorem test_nop_and_reserved : gives (exec .nop State.reset) (fun t => t == State.reset) = true ∧
    gives (exec (.hopReserved 3#2) State.reset) (fun t => t == State.reset) = true := by decide

/-- V-C1. -/
theorem test_poll : gives (exec .pollNoframe State.reset) (fun t => t == State.reset) = true ∧
    gives (exec .pollFrame { State.reset with frameReady := true }) (fun t => t.phase == 1#4 && t.frameReady) = true := by
  decide

/-- V-H5. -/
theorem test_host_busy : refuses (exec .nop (atPhase Phase.ack State.reset)) .hostBusy = true ∧
    refuses (exec .readWait (atPhase Phase.fetch0 State.reset)) .hostBusy = true := by decide

/-! ### CONSUMER: 2.4 -/

/-- V-C2. -/
theorem test_fetch0 : gives (exec .fetch0 (atPhase 1#4 (ring 8 0 [0x77#8, 0x66#8, 0xFF#8])))
    (fun t => t.tok.t0 == 0x57#8 && t.phase == 2#4 && t.head == 1) = true := by decide

/-- V-C3. -/
theorem test_fetch0_empty : gives (exec .fetch0 (atPhase 1#4 (ring 8 3 [])))
    (fun t => t.tok == ⟨0x20#8, 0x20#8, 0x20#8, 0x20#8⟩ && t.phase == 5#4 && t.head == 3) = true := by decide

/-- V-C6: the stored 0xFF ends the token. -/
theorem test_fetch1_sentinel : gives (exec .fetch1 { atPhase 2#4 (ring 8 1 [0xFF#8, 0x46#8, 0xFF#8]) with
      tok := ⟨0x57#8, 0#8, 0#8, 0#8⟩ })
    (fun t => t.tok == ⟨0x57#8, 0x20#8, 0x20#8, 0x20#8⟩ && t.phase == 5#4 && t.contents == [0x46#8, 0xFF#8]) = true := by decide

theorem test_fetch1 : gives (exec .fetch1 (atPhase 2#4 (ring 8 1 [0x66#8, 0xFF#8])))
    (fun t => t.tok.t1 == 0x46#8 && t.phase == 3#4 && t.contents == [0xFF#8]) = true := by decide

theorem test_fetch2 : gives (exec .fetch2 { atPhase 3#4 (ring 8 2 [0xFF#8]) with tok := ⟨0x57#8, 0x46#8, 0#8, 0#8⟩ })
    (fun t => t.tok == ⟨0x57#8, 0x46#8, 0x20#8, 0x20#8⟩ && t.phase == 5#4 && t.contents == []) = true := by decide

/-- V-C4. -/
theorem test_fetch3 : gives (exec .fetch3 { atPhase 4#4 (ring 8 3 [0x53#8, 0xFF#8]) with tok := ⟨0x57#8, 0x46#8, 0x4C#8, 0#8⟩ })
    (fun t => t.tok == ⟨0x57#8, 0x46#8, 0x4C#8, 0x53#8⟩ && t.phase == 5#4 && t.contents == [0xFF#8]) = true := by decide

/-- V-C5. -/
theorem test_drain : gives (exec .drain (atPhase 5#4 (ring 8 0 [0xFF#8, 0x53#8])))
      (fun t => t.contents == [0x53#8] && t.phase == 6#4) = true ∧
    gives (exec .drain (atPhase 5#4 (ring 8 4 []))) (fun t => t.contents == [] && t.head == 4 && t.phase == 6#4) = true := by
  decide

/-- V-C7. -/
theorem test_classify : gives (exec .classify { classifying ⟨0x53#8, 0x49#8, 0x54#8, 0x20#8⟩ with curCmd := 5#8 })
    (fun t => t.prevCmd == 5#8 && t.curCmd == 17#8 && t.kind == 0#2 && t.ackLen == 22#5 && t.ackI == 0#5 && t.phase == 7#4) =
      true := by decide

/-- E11 through CLASSIFY: `M` alone is not entry 19. -/
theorem test_classify_m : gives (exec .classify (classifying ⟨0x4D#8, 0x20#8, 0x20#8, 0x20#8⟩))
    (fun t => t.curCmd == 20#8 && t.kind == 2#2 && t.ackLen == 26#5) = true := by decide

/-- V-C8. -/
theorem test_clear : gives (exec .clear clearing) (fun t => !t.frameReady && t.phase == 8#4) = true ∧
    gives (exec .clear { clearing with frameReady := false }) (fun t => !t.frameReady && t.phase == 8#4) = true := by decide

/-- V-C9, the first and the last step. -/
theorem test_ack : gives (exec .ack (acking 0#5)) (fun t => t.tx == [0x57#8] && t.ackI == 1#5 && t.phase == 8#4) = true ∧
    gives (exec .ack (acking 20#5))
      (fun t => t.tx == [0x20#8] && t.phase == 0#4 && t.ackI == 0#5 && t.ackLen == 0#5) = true := by decide

theorem test_idle : gives (exec .idle State.reset) (fun t => t == State.reset) = true := by decide

theorem test_unused_phase : faults (step (atPhase 9#4 State.reset)) .unusedPhase = true := by decide

/-! ### Command table: 2.5 and 2.6 -/

/-- Operation, token, ordinal and acknowledgment length, row by row of 2.5. -/
def commandTableLow : List (Instr × Token × BitVec 8 × BitVec 5) :=
  [(.cmdStop, ⟨0x53#8, 0x54#8, 0x4F#8, 0x50#8⟩, 0#8, 21#5), (.cmdWf, ⟨0x57#8, 0x46#8, 0x20#8, 0x20#8⟩, 1#8, 21#5),
   (.cmdWb, ⟨0x57#8, 0x42#8, 0x20#8, 0x20#8⟩, 2#8, 21#5), (.cmdWlt, ⟨0x57#8, 0x4C#8, 0x54#8, 0x20#8⟩, 3#8, 21#5),
   (.cmdWrt, ⟨0x57#8, 0x52#8, 0x54#8, 0x20#8⟩, 4#8, 21#5), (.cmdWls, ⟨0x57#8, 0x4C#8, 0x53#8, 0x20#8⟩, 5#8, 21#5),
   (.cmdWrs, ⟨0x57#8, 0x52#8, 0x53#8, 0x20#8⟩, 6#8, 21#5), (.cmdWfls, ⟨0x57#8, 0x46#8, 0x4C#8, 0x53#8⟩, 7#8, 21#5),
   (.cmdWfrs, ⟨0x57#8, 0x46#8, 0x52#8, 0x53#8⟩, 8#8, 21#5), (.cmdWbls, ⟨0x57#8, 0x42#8, 0x4C#8, 0x53#8⟩, 9#8, 21#5)]

/-- Ordinals 10..18 of 2.5. -/
def commandTableHigh : List (Instr × Token × BitVec 8 × BitVec 5) :=
  [(.cmdWbrs, ⟨0x57#8, 0x42#8, 0x52#8, 0x53#8⟩, 10#8, 22#5), (.cmdWal, ⟨0x57#8, 0x41#8, 0x4C#8, 0x20#8⟩, 11#8, 22#5),
   (.cmdWar, ⟨0x57#8, 0x41#8, 0x52#8, 0x20#8⟩, 12#8, 22#5), (.cmdWflt, ⟨0x57#8, 0x46#8, 0x4C#8, 0x54#8⟩, 13#8, 22#5),
   (.cmdWfrt, ⟨0x57#8, 0x46#8, 0x52#8, 0x54#8⟩, 14#8, 22#5), (.cmdWblt, ⟨0x57#8, 0x42#8, 0x4C#8, 0x54#8⟩, 15#8, 22#5),
   (.cmdWbrt, ⟨0x57#8, 0x42#8, 0x52#8, 0x54#8⟩, 16#8, 22#5), (.cmdSit, ⟨0x53#8, 0x49#8, 0x54#8, 0x20#8⟩, 17#8, 22#5),
   (.cmdBal, ⟨0x42#8, 0x41#8, 0x4C#8, 0x20#8⟩, 18#8, 22#5)]

theorem test_commands : ∀ r ∈ commandTableLow ++ commandTableHigh,
    gives (exec r.1 (classifying r.2.1))
      (fun t => t.curCmd == r.2.2.1 && t.prevCmd == 0#8 && t.ackLen == r.2.2.2 && t.kind == 0#2 && t.phase == 7#4) = true := by
  decide

/-- The line of E5. -/
theorem test_match_line : gives (exec .cmdSit (classifying ⟨0x53#8, 0x49#8, 0x54#8, 0x20#8⟩))
    (fun t => t.ackBuf.take 22 == [0x53#8, 0x49#8, 0x54#8, 0x20#8, 0x20#8, 0x2D#8, 0x20#8, 0x43#8, 0x6F#8, 0x6D#8, 0x6D#8,
      0x61#8, 0x6E#8, 0x64#8, 0x20#8, 0x23#8, 0x20#8, 0x31#8, 0x37#8, 0x0A#8, 0x3E#8, 0x20#8]) = true := by decide

/-- E11. -/
theorem test_m_alone : gives (exec .mReserved (classifying ⟨0x4D#8, 0x20#8, 0x20#8, 0x20#8⟩))
    (fun t => t.curCmd == 20#8 && t.ackLen == 26#5 && t.kind == 2#2) = true := by decide

/-- The second dispatch of 2.6: `"M24 "` after page 5. -/
theorem test_motion_page : gives (exec (.motionPage 0x32#8 0x34#8 0x20#8)
      { classifying ⟨0x4D#8, 0x32#8, 0x34#8, 0x20#8⟩ with curCmd := 19#8, curMp := 5#10 })
    (fun t => t.curMp == 24#10 && t.prevMp == 5#10 && t.curCmd == 19#8 && t.prevCmd == 0#8 &&
      t.ackBuf.take 30 == [0x4D#8, 0x32#8, 0x34#8, 0x20#8, 0x20#8, 0x2D#8, 0x20#8, 0x4D#8, 0x6F#8, 0x74#8, 0x69#8, 0x6F#8,
        0x6E#8, 0x50#8, 0x61#8, 0x67#8, 0x65#8, 0x43#8, 0x6F#8, 0x6D#8, 0x6D#8, 0x61#8, 0x6E#8, 0x64#8, 0x20#8, 0x32#8,
        0x34#8, 0x0A#8, 0x3E#8, 0x20#8] && t.ackLen == 30#5) = true := by decide

/-- E6 and 2.6: the page number of `M5`, `M24`, `M243`, `M007`, `M0`, `M2X4`, `M9X`. -/
theorem test_page_numbers : [(⟨0x4D#8, 0x35#8, 0x20#8, 0x20#8⟩ : Token), ⟨0x4D#8, 0x32#8, 0x34#8, 0x20#8⟩,
    ⟨0x4D#8, 0x32#8, 0x34#8, 0x33#8⟩, ⟨0x4D#8, 0x30#8, 0x30#8, 0x37#8⟩, ⟨0x4D#8, 0x30#8, 0x20#8, 0x20#8⟩,
    ⟨0x4D#8, 0x32#8, 0x58#8, 0x34#8⟩, ⟨0x4D#8, 0x39#8, 0x58#8, 0x20#8⟩].map pageNumber = [5, 24, 243, 7, 0, 2, 9] := by decide

/-- E8. -/
theorem test_not_found : gives (exec (.notFound 0x5A#8 0x5A#8 0x5A#8 0x5A#8)
      (classifying ⟨0x5A#8, 0x5A#8, 0x5A#8, 0x5A#8⟩))
    (fun t => t.curCmd == 20#8 && t.prevCmd == 0#8 && t.curMp == 0#10 &&
      t.ackBuf.take 26 == [0x5A#8, 0x5A#8, 0x5A#8, 0x5A#8, 0x20#8, 0x0A#8, 0x55#8, 0x6E#8, 0x6B#8, 0x6E#8, 0x6F#8, 0x77#8,
        0x6E#8, 0x20#8, 0x43#8, 0x6F#8, 0x6D#8, 0x6D#8, 0x61#8, 0x6E#8, 0x64#8, 0x21#8, 0x20#8, 0x0A#8, 0x3E#8, 0x20#8] &&
      t.ackLen == 26#5) = true := by decide

/-! ### RESET and the status view: 2.7, 2.8 -/

theorem test_reset : gives (exec .reset { acking 3#5 with curCmd := 17#8, tx := [0x53#8], frameReady := true, head := 4, tail := 4 })
    (fun t => t.phase == 0#4 && t.curCmd == 0#8 && !t.frameReady && t.head == 0 && t.tail == 0 && t.ackLen == 0#5 &&
      t.ackI == 0#5 && t.tx == [0x53#8]) = true := by decide

/-- During ACK, with RB empty and `frame_ready` 0: STATUS is 0x8A. -/
theorem test_status_byte : gives (exec (.stRead false 0x6#4) (acking 3#5))
    (fun t => t.out.stData == some (.byte 0x8A#8)) = true := by decide

/-- Page 243 reads as 0x00F3 at offset 2; a 16-bit read at offset 3 is refused. -/
theorem test_status_half : gives (exec (.stRead true 0x2#4) { State.reset with curMp := 243#10 })
      (fun t => t.out.stData == some (.half 0x00F3#16)) = true ∧
    refuses (exec (.stRead true 0x3#4) State.reset) .misalignedStatusRead = true := by decide

/-! ### The step -/

/-- `withFetchWord`: the very next step runs the placed operation. -/
theorem test_placed_words :
    gives (step (State.reset.withFetchWord 8 0x41)) (fun t => t.contents == [0x41#8] && t.tx == [0x41#8]) = true ∧
    gives (step (State.reset.withFetchWord 8 0x05)) (fun t => t.phase == 6#4) = true ∧
    gives (step (State.reset.withFetchWord 3 0b011)) (fun t => t.out.hostCount == some 0#16) = true ∧
    gives (step (State.reset.withFetchWord 32 0x53495420)) (fun t => t.curCmd == 17#8) = true ∧
    gives (step (State.reset.withFetchWord 0 0)) (fun t => t.phase == 0#4) = true := by decide

/-- R37: a write to the status view changes nothing but the trace. -/
theorem test_status_write : gives (step { State.reset with sched := [.stWrite 0x0#4 0xFFFF#16] })
    (fun t => t == State.reset) = true := by decide

/-! ### Witnesses: states and operands that meet each statement's hypotheses -/

theorem legal_reset : Legal State.reset := legal_of _ (by decide)

/-- RB full, RB empty at the last index, and RB wrapped. -/
theorem legal_rings : Legal (ring 8 0 [1#8, 2#8, 3#8, 4#8, 5#8, 6#8, 7#8]) ∧ Legal (ring 2 1 []) ∧
    Legal (ring 8 7 [0x41#8, 0xFF#8]) := ⟨legal_of _ (by decide), legal_of _ (by decide), legal_of _ (by decide)⟩

theorem legal_acks : Legal (acking 0#5) ∧ Legal (acking 20#5) := ⟨legal_of _ (by decide), legal_of _ (by decide)⟩

theorem legal_clearing : Legal clearing := legal_of _ (by decide)

theorem legal_phases : ∀ p : BitVec 4, p.toNat ≤ 5 → p.toNat ≠ 0 →
    Legal { atPhase p (ring 8 7 [0x77#8, 0xFF#8]) with tok := ⟨0x57#8, 0x57#8, 0x57#8, 0x57#8⟩ } ∧
    Legal { atPhase p (ring 8 0 []) with tok := ⟨0x57#8, 0x57#8, 0x57#8, 0x57#8⟩ } := by
  have h : ∀ p : BitVec 4, p.toNat ≤ 5 → p.toNat ≠ 0 →
      p = 1#4 ∨ p = 2#4 ∨ p = 3#4 ∨ p = 4#4 ∨ p = 5#4 := by decide
  intro p h1 h2
  rcases h p h1 h2 with rfl | rfl | rfl | rfl | rfl <;> exact ⟨legal_of _ (by decide), legal_of _ (by decide)⟩

theorem witness_DecodingAnEncodedInstructionGivesItBack :
    (Instr.pollFrame.wf = true ∧ (Instr.pollFrame = .pollNoframe → true = false)) ∧
    (Instr.pollNoframe.wf = true ∧ (Instr.pollNoframe = .pollFrame → false = true)) ∧
    (Instr.notFound 0xFF#8 0x7A#8 0#8 0#8).wf = true ∧ (Instr.motionPage 0x30#8 0xFF#8 0#8).wf = true := by decide

theorem witness_EveryDecodedWordIsItsInstructionsOwnWord :
    decode false (.rbp 0b10#2 0xFF#8) = .ok (.push 0xFF#8) ∧ decode false (.rbp 0b01#2 0#8) = .ok .pop ∧
    decode true (.strd true 0xF#4) = .ok (.stRead true 0xF#4) := by decide

theorem witness_BytesAndPortWordsAgree :
    PortWord.ofBytes .strd [0x1F#8] = .ok (.strd true 0xF#4) ∧ PortWord.ofBytes .rbp [0x02#8, 0xFF#8] = .ok (.rbp 2#2 0xFF#8) := by
  decide

theorem witness_ClassifyIsTheTokensOwnInstruction :
    (classifying ⟨0x42#8, 0x41#8, 0x4C#8, 0x20#8⟩).rom = commandRom ∧
    (classifying ⟨0x42#8, 0x41#8, 0x4C#8, 0x20#8⟩).phase = Phase.classify := by decide

/-- An endless run's environment, with one COUNT before the next POLL. -/
def endless : Environment := { endless := true, polls := true, rounds := 0, ahead := [0b011#3] }

/-- One trace item of each kind, clause by clause. -/
def traced (x : Stimulus) : State := { State.reset with sched := [x] }

theorem witness_StepRunsTheDecodedInstruction :
    ((traced (.rx 0x0D#8)).nextWord = some (.rxb8 0x0D#8) ∧ decode false (.rxb8 0x0D#8) = .ok .rxTerm) ∧
    (traced (.host 0b111#3)).sched = [.host 0b111#3] ∧ (traced (.stRead true 0xF#4)).sched = [.stRead true 0xF#4] ∧
    (traced (.stWrite 0#4 1#16)).sched = [.stWrite 0#4 1#16] ∧
    ((traced .turn).sched = [.turn] ∧ ¬((traced .turn).readHeld = true ∧ (traced .turn).phase = Phase.idle)) ∧
    ({ traced .turn with readHeld := true }.readHeld = true ∧ { traced .turn with readHeld := true }.phase = Phase.idle) ∧
    (State.reset.sched = [] ∧ State.reset.env.endless = false ∧ ¬(State.reset.readHeld = true ∧ State.reset.phase = Phase.idle)) ∧
    ({ State.reset with readHeld := true }.sched = [] ∧ { State.reset with readHeld := true }.phase = Phase.idle) ∧
    ({ State.reset with env := endless }.sched = [] ∧ { State.reset with env := endless }.env.endless = true) := by
  decide

theorem witness_ResetStateIsLegal : (Config.mk 2 20#8).wf ∧ (Config.mk 65536 255#8).wf ∧
    (List.replicate 31 0xA5#8 : List Byte).length = 31 := by decide

theorem witness_EveryStepKeepsTheLegalState : ∃ t, Legal (acking 20#5) ∧ step (acking 20#5) = .next t :=
  ⟨_, legal_acks.2, rfl⟩

theorem witness_LegalStatesNeverFaultAndRefuseOnlyBadRequests :
    Legal { acking 0#5 with sched := [.host 0b000#3] } ∧
    Legal { State.reset with readHeld := true, sched := [.host 0b001#3] } ∧
    Legal { State.reset with sched := [.stRead true 0x1#4] } :=
  ⟨legal_of _ (by decide), legal_of _ (by decide), legal_of _ (by decide)⟩

theorem witness_RomAndParametersNeverChange : ∃ t, step (acking 0#5) = .next t := ⟨_, rfl⟩

theorem witness_CountIsTheDistanceModuloN :
    (2 ≤ (ring 2 1 []).cfg.n ∧ (ring 2 1 []).head < 2 ∧ (ring 2 1 []).tail < 2) ∧
    ∃ s : State, 2 ≤ s.cfg.n ∧ s.head < s.cfg.n ∧ s.tail < s.cfg.n ∧ s.cfg.n = 65536 ∧ s.head = 65535 ∧ s.tail = 0 :=
  ⟨by decide, { ring 65536 65535 [] with tail := 0 }, by decide⟩

theorem witness_RbCountOutputsTheCount : (ring 8 3 []).tail ≥ (ring 8 3 []).head ∧
    { ring 8 7 [] with tail := 6 }.tail < { ring 8 7 [] with tail := 6 }.head := by decide

theorem witness_PushStoresAtTailOrDropsWhenFull :
    ((ring 8 7 []).tail < 8 ∧ (ring 8 7 []).count ≠ 7) ∧
    ((ring 8 0 (List.replicate 7 1#8)).tail < 8 ∧ (ring 8 0 (List.replicate 7 1#8)).count = 7) := by decide

theorem witness_PopTakesTheByteAtHead :
    (Legal (ring 2 1 []) ∧ (ring 2 1 []).head = (ring 2 1 []).tail) ∧
    (Legal (ring 8 7 [0x41#8, 0xFF#8]) ∧ (ring 8 7 [0x41#8, 0xFF#8]).head ≠ (ring 8 7 [0x41#8, 0xFF#8]).tail) :=
  ⟨⟨legal_rings.2.1, by decide⟩, legal_rings.2.2, by decide⟩

theorem witness_RingIsFirstInFirstOut :
    ∃ t u, Legal (ring 8 7 [0x41#8, 0xFF#8]) ∧ exec (.push 0x42#8) (ring 8 7 [0x41#8, 0xFF#8]) = .next t ∧
      exec .pop (ring 8 7 [0x41#8, 0xFF#8]) = .next u :=
  ⟨_, _, legal_rings.2.2, rfl, rfl⟩

theorem witness_ExactlyTheFreeSlotsAcceptPushes : Legal (ring 8 0 [1#8, 2#8, 3#8, 4#8, 5#8, 6#8, 7#8]) ∧ Legal State.reset :=
  ⟨legal_rings.1, legal_reset⟩

theorem witness_CountIsAcceptedPushesLessPops :
    ∃ t, Legal (acking 0#5) ∧ Conserved (acking 0#5) ∧ step (acking 0#5) = .next t := ⟨_, legal_acks.1, by decide, rfl⟩

theorem witness_RxTermSetsReadyPushesSentinelAndEchoes :
    (ring 8 7 []).tail < (ring 8 7 []).cfg.n ∧
    ((ring 8 0 (List.replicate 7 1#8)).tail < (ring 8 0 (List.replicate 7 1#8)).cfg.n ∧
      (ring 8 0 (List.replicate 7 1#8)).count = 8 - 1) := by decide

theorem witness_RxDataPushesRawByteAndEchoes :
    ((ring 8 7 []).tail < (ring 8 7 []).cfg.n ∧ (0xFF#8 : Byte) ≠ 0x0D#8) ∧
    ((ring 8 0 (List.replicate 7 1#8)).tail < (ring 8 0 (List.replicate 7 1#8)).cfg.n ∧ (0x00#8 : Byte) ≠ 0x0D#8) := by decide

theorem witness_EchoIsTheReceivedStreamWithCrLf :
    Legal { State.reset with sched := [.rx 0x77#8, .rx 0x0D#8, .turn] } ∧
    { State.reset with sched := [.rx 0x77#8, .rx 0x0D#8, .turn] }.sched =
      [0x77#8, 0x0D#8].map Stimulus.rx ++ [.turn] := ⟨legal_of _ (by decide), rfl⟩

theorem witness_NopAndReservedCodesChangeNothing : State.reset.phase = Phase.idle ∧ State.reset.readHeld = false := by decide

theorem witness_PollWithNoFrameChangesNothing :
    State.reset.phase = Phase.idle ∧ State.reset.readHeld = false ∧ State.reset.frameReady = false := by decide

theorem witness_PollWithFrameEntersFetch0 :
    { State.reset with frameReady := true }.phase = Phase.idle ∧ { State.reset with frameReady := true }.readHeld = false ∧
    { State.reset with frameReady := true }.frameReady = true := by decide

theorem witness_ReadWaitReturnsTheOldestByte :
    Legal (ring 8 7 [0x41#8, 0xFF#8]) ∧ (ring 8 7 [0x41#8, 0xFF#8]).phase = Phase.idle ∧
    (ring 8 7 [0x41#8, 0xFF#8]).contents = 0x41#8 :: [0xFF#8] := ⟨legal_rings.2.2, by decide, by decide⟩

theorem witness_ReadWaitHoldsWhileTheRingIsEmpty :
    (ring 2 1 []).phase = Phase.idle ∧ (ring 2 1 []).head = (ring 2 1 []).tail := by decide

/-- A READ_WAIT is held in an empty RB, and the byte `b` arrives. -/
def holding (b : Byte) : State := { ring 2 1 [] with readHeld := true, sched := [.rx b, .turn] }

theorem witness_HeldReadWaitReturnsThePushedByte :
    (Legal (holding 0x0D#8) ∧ (holding 0x0D#8).readHeld = true ∧ (holding 0x0D#8).contents = [] ∧
      (holding 0x0D#8).sched = .rx 0x0D#8 :: .turn :: []) ∧
    (Legal (holding 0x5A#8) ∧ (holding 0x5A#8).sched = .rx 0x5A#8 :: .turn :: []) :=
  ⟨⟨legal_of _ (by decide), rfl, rfl, rfl⟩, legal_of _ (by decide), rfl⟩

theorem witness_HostCountReturnsTheCount :
    State.reset.phase = Phase.idle ∧ State.reset.readHeld = false ∧ Legal State.reset := ⟨by decide, by decide, legal_reset⟩

theorem witness_HostIsRefusedDuringADispatchCycle :
    Instr.hopReserved 3#2 ∈ hostOps ∧ (atPhase Phase.fetch0 State.reset).phase ≠ Phase.idle ∧ (acking 0#5).phase ≠ Phase.idle := by
  decide

theorem witness_FetchStoresTheFoldedCharacter : ∀ p ∈ fetchOps, ∃ s : State, Legal s ∧ s.phase.toNat = p.1 + 1 ∧
    fold (s.contents.headD 0xFF#8) ≠ 0xFF#8 := by
  have h : ∀ p ∈ fetchOps, p = (0, .fetch0) ∨ p = (1, .fetch1) ∨ p = (2, .fetch2) ∨ p = (3, .fetch3) := by decide
  intro p hp
  rcases h p hp with rfl | rfl | rfl | rfl
  · exact ⟨_, (legal_phases 1#4 (by decide) (by decide)).1, by decide, by decide⟩
  · exact ⟨_, (legal_phases 2#4 (by decide) (by decide)).1, by decide, by decide⟩
  · exact ⟨_, (legal_phases 3#4 (by decide) (by decide)).1, by decide, by decide⟩
  · exact ⟨_, (legal_phases 4#4 (by decide) (by decide)).1, by decide, by decide⟩

theorem witness_FetchPadsTheTokenAtTheSentinel : ∀ p ∈ fetchOps, ∃ s : State, Legal s ∧ s.phase.toNat = p.1 + 1 ∧
    fold (s.contents.headD 0xFF#8) = 0xFF#8 := by
  have h : ∀ p ∈ fetchOps, p = (0, .fetch0) ∨ p = (1, .fetch1) ∨ p = (2, .fetch2) ∨ p = (3, .fetch3) := by decide
  intro p hp
  rcases h p hp with rfl | rfl | rfl | rfl
  · exact ⟨_, (legal_phases 1#4 (by decide) (by decide)).2, by decide, by decide⟩
  · exact ⟨_, (legal_phases 2#4 (by decide) (by decide)).2, by decide, by decide⟩
  · exact ⟨_, (legal_phases 3#4 (by decide) (by decide)).2, by decide, by decide⟩
  · exact ⟨_, (legal_phases 4#4 (by decide) (by decide)).2, by decide, by decide⟩

theorem witness_DrainDiscardsOneByte : ∃ s u : State, (Legal s ∧ s.phase = Phase.drain ∧ s.head ≠ s.tail) ∧
    Legal u ∧ u.phase = Phase.drain ∧ u.head = u.tail :=
  ⟨_, _, ⟨(legal_phases 5#4 (by decide) (by decide)).1, by decide, by decide⟩,
    (legal_phases 5#4 (by decide) (by decide)).2, by decide, by decide⟩

theorem witness_ClassifyOfATableTokenShiftsTheCommand :
    (classifying ⟨0x53#8, 0x54#8, 0x4F#8, 0x50#8⟩).rom[0]? = some (classifying ⟨0x53#8, 0x54#8, 0x4F#8, 0x50#8⟩).tok ∧
    (classifying ⟨0x42#8, 0x41#8, 0x4C#8, 0x20#8⟩).rom[18]? = some (classifying ⟨0x42#8, 0x41#8, 0x4C#8, 0x20#8⟩).tok ∧
    (classifying ⟨0x42#8, 0x41#8, 0x4C#8, 0x20#8⟩).rom = commandRom ∧
    (classifying ⟨0x42#8, 0x41#8, 0x4C#8, 0x20#8⟩).phase = Phase.classify := by decide

theorem witness_ClassifyOfAPageTokenShiftsThePage :
    (classifying ⟨0x4D#8, 0x39#8, 0x39#8, 0x39#8⟩).rom = commandRom ∧
    (classifying ⟨0x4D#8, 0x39#8, 0x39#8, 0x39#8⟩).phase = Phase.classify ∧
    (classifying ⟨0x4D#8, 0x39#8, 0x39#8, 0x39#8⟩).tok.t0 = 0x4D#8 ∧
    isDigit (classifying ⟨0x4D#8, 0x39#8, 0x39#8, 0x39#8⟩).tok.t1 = true := by decide

theorem witness_ClassifyOfAnyOtherTokenIsNotFound :
    (classifying ⟨0x4D#8, 0x20#8, 0x20#8, 0x20#8⟩).rom = commandRom ∧
    (classifying ⟨0x4D#8, 0x20#8, 0x20#8, 0x20#8⟩).phase = Phase.classify ∧
    (∀ i ≤ 18, (classifying ⟨0x4D#8, 0x20#8, 0x20#8, 0x20#8⟩).rom[i]? ≠
      some (classifying ⟨0x4D#8, 0x20#8, 0x20#8, 0x20#8⟩).tok) ∧
    ¬((classifying ⟨0x4D#8, 0x20#8, 0x20#8, 0x20#8⟩).tok.t0 = 0x4D#8 ∧
      isDigit (classifying ⟨0x4D#8, 0x20#8, 0x20#8, 0x20#8⟩).tok.t1 = true) := by decide

theorem witness_ClearEndsTheFrame : clearing.phase = Phase.clear ∧ clearing.frameReady = true := by decide

theorem witness_AckEmitsOneByteOfTheLine :
    (Legal (acking 0#5) ∧ (acking 0#5).phase = Phase.ack ∧ (acking 0#5).ackI.toNat + 1 ≠ (acking 0#5).ackLen.toNat) ∧
    (Legal (acking 20#5) ∧ (acking 20#5).phase = Phase.ack ∧ (acking 20#5).ackI.toNat + 1 = (acking 20#5).ackLen.toNat) :=
  ⟨⟨legal_acks.1, by decide, by decide⟩, legal_acks.2, by decide, by decide⟩

theorem witness_IdleWaitsForAPoll :
    (State.reset.phase = Phase.idle ∧ State.reset.sched = [] ∧ State.reset.env.endless = false ∧
      State.reset.readHeld = false) ∧
    (Legal { State.reset with env := endless } ∧ { State.reset with env := endless }.phase = Phase.idle ∧
      { State.reset with env := endless }.readHeld = false ∧ { State.reset with env := endless }.sched = [] ∧
      { State.reset with env := endless }.env.endless = true ∧ { State.reset with env := endless }.env.polls = true ∧
      0b010#3 ∉ { State.reset with env := endless }.env.ahead) :=
  ⟨by decide, legal_of _ (by decide), by decide, by decide, by decide, by decide, by decide, by decide⟩

theorem witness_UnusedPhaseFaults :
    (9 ≤ (atPhase 9#4 State.reset).phase.toNat ∧ (atPhase 9#4 State.reset).sched = [] ∧
      (atPhase 9#4 State.reset).env.endless = false) ∧
    (9 ≤ (atPhase 15#4 (traced .turn)).phase.toNat ∧ (atPhase 15#4 (traced .turn)).sched = .turn :: []) := by decide

theorem witness_PhaseFollowsTheTransitionTable :
    ∃ t, Legal (acking 20#5) ∧ step (acking 20#5) = .next t ∧ t.phase ≠ (acking 20#5).phase :=
  ⟨_, legal_acks.2, rfl, by decide⟩

theorem witness_EachTableCommandRunsOnItsOwnToken :
    (Instr.cmdBal, ([0x42#8, 0x41#8, 0x4C#8, 0x20#8] : List Byte), 18) ∈ commandRows ∧
    (classifying ⟨0x42#8, 0x41#8, 0x4C#8, 0x20#8⟩).phase = Phase.classify ∧
    (classifying ⟨0x42#8, 0x41#8, 0x4C#8, 0x20#8⟩).tok.chars = [0x42#8, 0x41#8, 0x4C#8, 0x20#8] ∧
    (classifying ⟨0x42#8, 0x41#8, 0x4C#8, 0x58#8⟩).tok.chars ≠ [0x42#8, 0x41#8, 0x4C#8, 0x20#8] := by decide

theorem witness_LetterMAloneIsNotFound :
    (classifying ⟨0x4D#8, 0x20#8, 0x20#8, 0x20#8⟩).phase = Phase.classify ∧
    (classifying ⟨0x4D#8, 0x20#8, 0x20#8, 0x20#8⟩).tok = ⟨0x4D#8, 0x20#8, 0x20#8, 0x20#8⟩ := by decide

theorem witness_MotionPageRunsOnMAndADigit :
    (classifying ⟨0x4D#8, 0x30#8, 0xFF#8, 0x2F#8⟩).phase = Phase.classify ∧
    (classifying ⟨0x4D#8, 0x30#8, 0xFF#8, 0x2F#8⟩).tok = ⟨0x4D#8, 0x30#8, 0xFF#8, 0x2F#8⟩ ∧ isDigit 0x30#8 = true := by decide

theorem witness_NotFoundRunsOnEveryOtherToken :
    (classifying ⟨0x4D#8, 0x3A#8, 0x20#8, 0x20#8⟩).phase = Phase.classify ∧
    (classifying ⟨0x4D#8, 0x3A#8, 0x20#8, 0x20#8⟩).rom = commandRom ∧
    (Instr.notFound 0x4D#8 0x3A#8 0x20#8 0x20#8).wf = true := by decide

theorem witness_BytesDuringResetAreHeldOrLost :
    (traced (.rst [0x41#8, 0x0D#8])).sched = .rst [0x41#8, 0x0D#8] :: [] := by decide

theorem witness_StatusViewShowsTheRegisters : Legal (acking 0#5) ∧ Legal (ring 8 0 [1#8, 2#8, 3#8, 4#8, 5#8, 6#8, 7#8]) :=
  ⟨legal_acks.1, legal_rings.1⟩

theorem witness_StatusReadHasNoSideEffect :
    ∃ t u, exec (.stRead true 0xE#4) State.reset = .next t ∧ exec (.stRead false 0xF#4) State.reset = .next u := ⟨_, _, rfl, rfl⟩

theorem witness_OddWideStatusReadIsRefused : (0x1#4 : BitVec 4).toNat % 2 = 1 ∧ (0xF#4 : BitVec 4).toNat % 2 = 1 := by decide

theorem witness_EachFieldHasItsOwnWriter :
    (∃ t, exec .fetch0 (atPhase 1#4 (ring 8 7 [0x77#8])) = .next t ∧ t.tok ≠ State.reset.tok ∧ t.head ≠ 7 ∧ t.phase ≠ 1#4) ∧
    (∃ t, exec .rxTerm State.reset = .next t ∧ t.tail ≠ 0 ∧ t.frameReady = true ∧ t.tx ≠ [] ∧
      Memory.read t.rb 0 ≠ Memory.read State.reset.rb 0) ∧
    (∃ t, exec .classify (classifying ⟨0x4D#8, 0x39#8, 0x20#8, 0x20#8⟩) = .next t ∧ t.curCmd ≠ 0#8 ∧ t.kind ≠ 0#2 ∧
      t.ackBuf ≠ State.reset.ackBuf ∧ t.ackLen ≠ 0#5) ∧
    (∃ t, exec .ack (acking 0#5) = .next t ∧ t.ackI ≠ 0#5) ∧
    ∃ t, exec .readWait State.reset = .next t ∧ t.readHeld = true :=
  ⟨⟨_, rfl, by decide, by decide, by decide⟩, ⟨_, rfl, by decide, by decide, by decide, by decide⟩,
    ⟨_, rfl, by decide, by decide, by decide, by decide⟩, ⟨_, rfl, by decide⟩, _, rfl, rfl⟩

theorem witness_FrameReadyIsSetByRxTermAndClearedByClear :
    (∃ t, exec .rxTerm State.reset = .next t ∧ State.reset.frameReady = false ∧ t.frameReady = true) ∧
    ∃ t, exec .clear clearing = .next t ∧ clearing.frameReady = true ∧ t.frameReady = false :=
  ⟨⟨_, rfl, rfl, rfl⟩, _, rfl, rfl, rfl⟩

theorem witness_TheTxStreamOnlyGrows : ∃ t, step (acking 0#5) = .next t ∧ t.tx ≠ (acking 0#5).tx := ⟨_, rfl, by decide⟩

theorem witness_GhostAndOutputsInfluenceNothing :
    (∃ t, step (acking 0#5) = .next t) ∧ step (atPhase 9#4 State.reset) = .fault .unusedPhase ∧
    step (traced (.stRead true 0x1#4)) = .refused .misalignedStatusRead := ⟨⟨_, rfl⟩, rfl, rfl⟩

theorem witness_FetchesAndDrainNormalizeTheFrame : ∃ s : State, Legal s ∧ s.phase = Phase.fetch0 ∧ s.sched = [] ∧
    s.env.endless = false :=
  ⟨_, (legal_phases 1#4 (by decide) (by decide)).1, rfl, rfl, rfl⟩

/-- A frame is in RB, and the HOST polls. -/
def polled (bs : List Byte) : State := { ring 8 7 bs with frameReady := true, sched := [.host 0b001#3] }

theorem witness_DispatchCycleClassifiesTheFrame :
    (Legal (polled [0x77#8, 0x66#8, 0xFF#8]) ∧ Legal (polled [0x4D#8, 0x35#8]) ∧ Legal (polled [])) ∧
    ((polled []).phase = Phase.idle ∧ (polled []).readHeld = false ∧ (polled []).frameReady = true ∧
      (polled []).sched = [.host 0b001#3] ∧ (polled []).env.endless = false) :=
  ⟨⟨legal_of _ (by decide), legal_of _ (by decide), legal_of _ (by decide)⟩, by decide⟩

theorem witness_EachTurnBringsTheCyclesEndNearer :
    (Legal (acking 20#5) ∧ (acking 20#5).phase ≠ Phase.idle ∧ (acking 20#5).sched = [] ∧
      (acking 20#5).env.endless = false) ∧
    (∀ x ∈ [Stimulus.turn, .rx 0x0D#8, .stRead false 0x7#4, .stRead true 0xE#4, .stWrite 0x0#4 1#16],
      Legal { clearing with sched := [x] } ∧ { clearing with sched := [x] }.phase ≠ Phase.idle) ∧
    (0xE#4 : BitVec 4).toNat % 2 = 0 := by
  refine ⟨⟨legal_acks.2, by decide, rfl, rfl⟩, ?_, by decide⟩
  intro x _
  exact ⟨legal_with_trace (legal_of clearing (by decide)) [x], by show Phase.clear ≠ Phase.idle; decide⟩

/-- 38 turns with an RX event, RESET, a status read and a status write among them. -/
def interleaved : List Stimulus :=
  [.rx 0x0D#8, .stRead true 0x2#4, .stWrite 0x0#4 1#16, .rst [0x41#8]] ++ List.replicate 38 .turn

theorem witness_ACycleEndsWithin38TurnsUnderAnyInterleaving :
    (Legal { clearing with sched := interleaved ++ [] } ∧ { clearing with sched := interleaved ++ [] }.phase ≠ Phase.idle) ∧
    ((∀ x ∈ interleaved, x = .turn ∨ fromOutside x = true) ∧ 38 ≤ interleaved.count .turn) ∧
    (Legal { clearing with env := endless } ∧ { clearing with env := endless }.phase ≠ Phase.idle ∧
      { clearing with env := endless }.sched = [] ∧ { clearing with env := endless }.env.endless = true) :=
  ⟨⟨legal_of _ (by decide), by decide⟩, ⟨by decide, by decide⟩, legal_of _ (by decide), by decide, rfl, rfl⟩

/-- In FETCH0 and in CLEAR a terminator arrives, another one after it, and the poll context has its turns. -/
def lateTerminator : List Stimulus := .rx 0x0D#8 :: ([.turn, .rx 0x0D#8] ++ List.replicate 6 .turn ++ [])

theorem witness_TerminatorBeforeClearIsLostAndInAckKept :
    (Legal { atPhase 1#4 (ring 8 7 [0x77#8]) with sched := lateTerminator } ∧
      (atPhase 1#4 (ring 8 7 [0x77#8])).phase.toNat = 1 ∧
      (∀ x ∈ [Stimulus.turn, .rx 0x0D#8] ++ List.replicate 6 .turn, x = .turn ∨ ∃ b, x = .rx b) ∧
      8 - 1 ≤ ([Stimulus.turn, .rx 0x0D#8] ++ List.replicate 6 Stimulus.turn).count Stimulus.turn) ∧
    (Legal { clearing with sched := [.rx 0x0D#8, .turn] } ∧ { clearing with sched := [.rx 0x0D#8, .turn] }.phase.toNat = 7 ∧
      { clearing with sched := [.rx 0x0D#8, .turn] }.sched = .rx 0x0D#8 :: (List.replicate (8 - 7) .turn ++ [])) ∧
    (Legal { acking 20#5 with sched := [.rx 0x0D#8, .turn, .rx 0x41#8] } ∧
      { acking 20#5 with sched := [.rx 0x0D#8, .turn, .rx 0x41#8] }.phase = Phase.ack) := by
  refine ⟨⟨legal_of _ (by decide), by decide, ?_, by decide⟩, ⟨legal_of _ (by decide), by decide, rfl⟩,
    legal_of _ (by decide), by decide⟩
  intro x hx
  simp only [List.mem_append, List.mem_cons, List.not_mem_nil, or_false, List.mem_replicate] at hx
  rcases hx with (rfl | rfl) | ⟨-, rfl⟩
  · exact .inl rfl
  · exact .inr ⟨_, rfl⟩
  · exact .inl rfl

end Sys2Proof.Tests
end

section
/-! SUPPORT. What PUSH and POP leave unchanged, field by field, and the parts of `Legal`: one structure per group of
registers, each with the lemma that it only depends on them. -/

namespace Sys2Proof.Machine

/-! ### What PUSH and POP leave unchanged -/

section
variable {s t : State} {b v : Byte} {ok : Bool}

/-- The registers that a PUSH leaves unchanged (R101). -/
theorem State.pushByte_keeps (h : s.pushByte b = .ok (ok, t)) :
    t.head = s.head ∧ t.frameReady = s.frameReady ∧ t.tx = s.tx ∧
    (t.curCmd = s.curCmd ∧ t.prevCmd = s.prevCmd ∧ t.curMp = s.curMp ∧ t.prevMp = s.prevMp) ∧
    (t.phase = s.phase ∧ t.readHeld = s.readHeld ∧ t.tok = s.tok ∧ t.kind = s.kind ∧ t.ackBuf = s.ackBuf ∧
      t.ackLen = s.ackLen ∧ t.ackI = s.ackI) ∧
    (t.cfg = s.cfg ∧ t.rom = s.rom ∧ t.sched = s.sched ∧ t.env = s.env ∧ t.draws = s.draws) := by
  rw [State.pushByte_frame h]
  simp

/-- The registers that a POP leaves unchanged (R102). -/
theorem State.popByte_keeps (h : s.popByte = .ok (v, t)) :
    t.tail = s.tail ∧ t.rb = s.rb ∧ t.frameReady = s.frameReady ∧ t.tx = s.tx ∧
    (t.curCmd = s.curCmd ∧ t.prevCmd = s.prevCmd ∧ t.curMp = s.curMp ∧ t.prevMp = s.prevMp) ∧
    (t.phase = s.phase ∧ t.readHeld = s.readHeld ∧ t.tok = s.tok ∧ t.kind = s.kind ∧ t.ackBuf = s.ackBuf ∧
      t.ackLen = s.ackLen ∧ t.ackI = s.ackI) ∧
    (t.cfg = s.cfg ∧ t.rom = s.rom ∧ t.sched = s.sched ∧ t.env = s.env ∧ t.draws = s.draws) := by
  rw [State.popByte_frame h]
  simp

theorem State.popByte_phase (h : s.popByte = .ok (v, t)) : t.phase = s.phase := by simp [State.popByte_keeps h]

/-- No operation writes the parameters, ROM, or the environment's part (R6, R29, R62). -/
theorem Effect.sameFixed {i : Instr} (h : Effect i s t) : SameFixed s t := by
  cases h with
  | rxTerm _ _ _ hp | rxData _ _ _ _ _ hp | push _ _ _ _ hp => simp [SameFixed, State.pushByte_keeps hp]
  | pop _ _ _ hp | readWait _ _ _ _ _ hp | fetchEnd _ _ _ _ _ _ _ hp | fetchChar _ _ _ _ _ _ _ hp | drain _ _ _ _ hp =>
    simp [SameFixed, State.popByte_keeps hp]
  | _ => simp [SameFixed, State.classifyMatch, State.classifyPage, State.classifyUnknown]

end

/-! ### The parts of `Legal` -/

/-- The part of `Legal` that is about the shared command registers (R20). -/
structure SharedOk (s : State) : Prop where
  cur_cmd_legal : legalOrd s.cfg s.curCmd
  prev_cmd_legal : legalOrd s.cfg s.prevCmd
  cur_mp_le : s.curMp.toNat ≤ 999
  prev_mp_le : s.prevMp.toNat ≤ 999

/-- The part of `Legal` that is about the poll context (R30 to R33, R104). -/
structure PollOk (s : State) : Prop where
  phase_named : s.phase.toNat ≤ 8
  kind_used : s.phase = Phase.clear ∨ s.phase = Phase.ack → s.kind ≠ Kind.unused
  ack_buf_length : s.ackBuf.length = ackMax
  ack_pos : ackPosLegal s
  held_idle : s.readHeld = true → s.phase = Phase.idle
  tok_chars : ∀ c ∈ s.tok.chars.take (fetched s.phase), tokenChar c = true

theorem legal_iff (s : State) :
    Legal s ↔ (s.cfg.wf ∧ s.rom = commandRom) ∧ RingOk s ∧ SharedOk s ∧ PollOk s := by
  constructor
  · intro h
    exact ⟨⟨h.cfg_wf, h.rom_fixed⟩, ⟨h.head_lt, h.tail_lt, h.rb_wf, h.rb_inside, h.occupied⟩,
      ⟨h.cur_cmd_legal, h.prev_cmd_legal, h.cur_mp_le, h.prev_mp_le⟩,
      ⟨h.phase_named, h.kind_used, h.ack_buf_length, h.ack_pos, h.held_idle, h.tok_chars⟩⟩
  · rintro ⟨⟨hcfg, hrom⟩, hr, hs, hp⟩
    exact ⟨hcfg, hrom, hr.head_lt, hr.tail_lt, hr.rb_wf, hr.rb_inside, hr.occupied, hs.cur_cmd_legal,
      hs.prev_cmd_legal, hs.cur_mp_le, hs.prev_mp_le, hp.phase_named, hp.kind_used, hp.ack_buf_length, hp.ack_pos,
      hp.held_idle, hp.tok_chars⟩

section
variable {s t : State}

theorem SharedOk.congr (h : SharedOk s) (hs : SameShared s t) (hc : t.cfg = s.cfg) : SharedOk t := by
  obtain ⟨h1, h2, h3, h4⟩ := hs
  obtain ⟨a, b, c, d⟩ := h
  constructor <;> simpa only [h1, h2, h3, h4, hc]

theorem PollOk.congr (h : PollOk s) (hs : SamePoll s t) : PollOk t := by
  obtain ⟨h1, h2, h3, h4, h5, h6, h7⟩ := hs
  obtain ⟨a, b, c, d, e, f⟩ := h
  constructor <;> simpa only [ackPosLegal, h1, h2, h3, h4, h5, h6, h7]

/-! ### After a RESET -/

/-- An empty ring at index 0 needs nothing of the slots (R28, R41). -/
theorem RingOk.of_zero (hn : 0 < s.cfg.n) (hh : s.head = 0) (ht : s.tail = 0) (hw : Memory.wf s.rb = true)
    (hi : ∀ c ∈ s.rb, c.1 < s.cfg.n) : RingOk s where
  head_lt := hh ▸ hn
  tail_lt := ht ▸ hn
  rb_wf := hw
  rb_inside := hi
  occupied k hk := by simp [State.count, hh, ht] at hk

theorem SharedOk.of_zero (h1 : s.curCmd = 0#8) (h2 : s.prevCmd = 0#8) (h3 : s.curMp = 0#10) (h4 : s.prevMp = 0#10) :
    SharedOk s := by
  constructor <;> simp [legalOrd, h1, h2, h3, h4]

/-- In IDLE `tok`, `kind` and the bytes of `ack_buf` may be anything (R41). -/
theorem PollOk.of_idle (hp : s.phase = Phase.idle) (hb : s.ackBuf.length = ackMax) (hi : s.ackI = 0#5)
    (hl : s.ackLen = 0#5) : PollOk s := by
  constructor <;> simp [ackPosLegal, Phase.idle, Phase.clear, Phase.ack, hp, hb, hi, hl, fetched]

end

end Sys2Proof.Machine
end

section
/-! SUPPORT. The lengths of the acknowledgment lines, the bound of the page number, and the characters that a FETCH
stores. -/

namespace Sys2Proof.Machine

/-! ### Acknowledgment lines (R79, R80) -/

theorem dec_length (v : Nat) : (dec v).length = if v < 10 then 1 else if v < 100 then 2 else 3 := by
  unfold dec
  split
  · rfl
  · split <;> rfl

theorem matchLine_length (t : Token) (i : Nat) : (matchLine t i).length = 20 + (dec i).length := by
  simp +arith [matchLine, Token.chars, textCommand, textPrompt]

theorem pageLine_length (t : Token) (p : Nat) : (pageLine t p).length = 28 + (dec p).length := by
  simp +arith [pageLine, Token.chars, textMotionPage, textPrompt]

theorem unknownLine_length (t : Token) : (unknownLine t).length = 26 := rfl

theorem dec_length_bounds (v : Nat) : 1 ≤ (dec v).length ∧ (dec v).length ≤ 3 := by
  rw [dec_length]
  split_ifs <;> omega

/-- Each line fits in `ack_buf`, and is at least 21 bytes long (R33, R79). -/
theorem matchLine_fits (t : Token) (i : Nat) : 21 ≤ (matchLine t i).length ∧ (matchLine t i).length ≤ 31 := by
  have := dec_length_bounds i
  rw [matchLine_length]
  omega

theorem pageLine_fits (t : Token) (p : Nat) : 21 ≤ (pageLine t p).length ∧ (pageLine t p).length ≤ 31 := by
  have := dec_length_bounds p
  rw [pageLine_length]
  omega

theorem unknownLine_fits (t : Token) : 21 ≤ (unknownLine t).length ∧ (unknownLine t).length ≤ 31 := by
  rw [unknownLine_length]
  omega

theorem overwrite_length {line buf : List Byte} (h : line.length ≤ buf.length) :
    (overwrite line buf).length = buf.length := by
  simp [overwrite, Nat.add_sub_of_le h]

/-! ### The page number (R183) -/

theorem digitVal_le {c : Byte} (h : isDigit c = true) : digitVal c ≤ 9 := by
  simp only [isDigit, decide_eq_true_eq] at h
  unfold digitVal
  omega

/-- Each character adds at most one decimal place. -/
theorem pageDigits_lt (p : Nat) (cs : List Byte) : pageDigits p cs < (p + 1) * 10 ^ cs.length := by
  induction cs generalizing p with
  | nil => simp [pageDigits]
  | cons c cs ih =>
    rw [pageDigits]
    split
    · next hc =>
      calc pageDigits (10 * p + digitVal c) cs
          < (10 * p + digitVal c + 1) * 10 ^ cs.length := ih _
        _ ≤ ((p + 1) * 10) * 10 ^ cs.length := by
            have := digitVal_le hc
            gcongr
            omega
        _ = (p + 1) * 10 ^ (cs.length + 1) := by ring
    · calc p < (p + 1) * 1 := by omega
        _ ≤ (p + 1) * 10 ^ (cs.length + 1) := by gcongr; exact Nat.one_le_pow _ _ (by omega)

theorem pageNumber_le (t : Token) : pageNumber t ≤ 999 := by
  have := pageDigits_lt 0 [t.t1, t.t2, t.t3]
  simpa [pageNumber, Nat.lt_succ_iff] using this

/-! ### Fetched characters (R72, R74, R133) -/

/-- A folded byte is no small letter, so a FETCH that is not at an end stores a character. -/
theorem tokenChar_fold {v : Byte} (h : fold v ≠ sent) : tokenChar (fold v) = true := by
  have hfold : ¬(0x61 ≤ (fold v).toNat ∧ (fold v).toNat ≤ 0x7A) := by
    unfold fold
    split
    · next hv => bv_omega
    · assumption
  simp [tokenChar, hfold, h]

theorem fetched_eq (p : BitVec 4) : fetched p = min (p.toNat - 1) 4 := by
  unfold fetched
  split
  · next h => rw [h]; rfl
  · rfl

theorem afterFetch_toNat {k : Nat} (h : k ≤ 3) : (Phase.afterFetch k).toNat = k + 2 := by
  interval_cases k <;> rfl

/-- After `tok[k] <- c` the first `k + 1` characters are the first `k` old ones and `c`. -/
theorem Token.take_chars_put {k : Nat} (h : k ≤ 3) (t : Token) (c : Byte) :
    (t.put k c).chars.take (k + 1) = t.chars.take k ++ [c] := by
  interval_cases k <;> rfl

/-- Padding from `k` on keeps the first `k` characters. -/
theorem Token.chars_padFrom {k : Nat} (h : k ≤ 3) (t : Token) :
    (t.padFrom k).chars = t.chars.take k ++ List.replicate (4 - k) space := by
  interval_cases k <;> rfl

/-- The number of a FETCH is at most 3. -/
theorem fetch_index_le {i : Instr} {k : Nat}
    (h : (i, k) ∈ [(Instr.fetch0, 0), (.fetch1, 1), (.fetch2, 2), (.fetch3, 3)]) : k ≤ 3 := by
  simp only [List.mem_cons, Prod.mk.injEq, List.not_mem_nil, or_false] at h
  omega

end Sys2Proof.Machine
end

section
/-! SUPPORT. Each part of `Legal` along one operation, and the invariant along a step. -/

namespace Sys2Proof.Machine

variable {i : Instr} {s t : State}

/-! ### The ring and the shared registers -/

theorem Effect.ringOk (h : Effect i s t) (hr : RingOk s) : RingOk t := by
  cases h with
  | rxTerm _ ok u hp =>
    have hraise : RingOk s.raiseReady := hr.congr rfl rfl rfl rfl
    exact (hraise.push hp).1.congr (by simp) (by simp) (by simp) (by simp)
  | rxData _ b ok u _ hp => exact (hr.push hp).1.congr (by simp) (by simp) (by simp) (by simp)
  | push _ b ok _ hp => exact (hr.push hp).1
  | pop _ v _ hp => exact (hr.pop hp).1
  | readWait _ _ _ _ _ hp | fetchEnd _ _ _ _ _ _ _ hp | fetchChar _ _ _ _ _ _ _ hp | drain _ _ _ _ hp =>
    exact (hr.pop hp).1.congr rfl rfl rfl rfl
  | unknown =>
    rw [State.classifyUnknown]
    exact hr.congr (by simp) (by simp) (by simp) (by simp)
  | clear => exact hr.congr (by simp) (by simp) (by simp) (by simp)
  | reset => exact .of_zero (Nat.zero_lt_of_lt hr.head_lt) rfl rfl hr.rb_wf hr.rb_inside
  | _ => exact hr.congr rfl rfl rfl rfl

theorem Effect.sharedOk (h : Effect i s t) (hs : SharedOk s) : SharedOk t := by
  obtain ⟨hcfg, -⟩ := h.sameFixed
  cases h with
  | rxTerm _ _ _ hp | rxData _ _ _ _ _ hp | push _ _ _ _ hp =>
    exact hs.congr (by simp [SameShared, State.pushByte_keeps hp]) hcfg
  | pop _ _ _ hp | readWait _ _ _ _ _ hp | fetchEnd _ _ _ _ _ _ _ hp | fetchChar _ _ _ _ _ _ _ hp | drain _ _ _ _ hp =>
    exact hs.congr (by simp [SameShared, State.popByte_keeps hp]) hcfg
  | table _ _ n _ _ hn =>
    have hle : n ≤ 18 := hn
    refine ⟨.inl ?_, hs.cur_cmd_legal, hs.cur_mp_le, hs.prev_mp_le⟩
    show (BitVec.ofNat 8 n).toNat ≤ 19
    rw [BitVec.toNat_ofNat]
    omega
  | page =>
    have hle := pageNumber_le s.tok
    refine ⟨.inl (show mpOrd.toNat ≤ 19 by decide), hs.prev_cmd_legal, ?_, hs.cur_mp_le⟩
    show (BitVec.ofNat 10 (pageNumber s.tok)).toNat ≤ 999
    rw [BitVec.toNat_ofNat]
    omega
  | unknown =>
    constructor <;>
      simp [State.classifyUnknown, legalOrd, hs.prev_cmd_legal, hs.cur_mp_le, hs.prev_mp_le]
  | reset => exact .of_zero rfl rfl rfl rfl
  | _ => exact hs.congr (by simp [SameShared]) hcfg

/-! ### The acknowledgment position (R33, R137) -/

theorem ackPosLegal_ack (hp : s.phase = Phase.ack) :
    ackPosLegal s ↔ s.ackI.toNat < s.ackLen.toNat ∧ 21 ≤ s.ackLen.toNat := by
  simp only [ackPosLegal, hp, if_true]

theorem ackPosLegal_clear (hp : s.phase = Phase.clear) :
    ackPosLegal s ↔ s.ackI = 0#5 ∧ 21 ≤ s.ackLen.toNat := by
  have hne : Phase.clear ≠ Phase.ack := by decide
  simp only [ackPosLegal, hp, if_neg hne, if_true]

/-- Up to CLASSIFY no line is composed. -/
theorem ackPosLegal_early (hp : s.phase.toNat ≤ 6) : ackPosLegal s ↔ s.ackI = 0#5 ∧ s.ackLen = 0#5 := by
  have h8 : s.phase ≠ Phase.ack := fun h => by simp [h] at hp
  have h7 : s.phase ≠ Phase.clear := fun h => by simp [h] at hp
  simp only [ackPosLegal, if_neg h8, if_neg h7]

/-! ### The poll context -/

theorem State.setShared_samePoll (s : State) (cc pc : BitVec 8) (cm pm : BitVec 10) :
    SamePoll s (s.setShared cc pc cm pm) := ⟨rfl, rfl, rfl, rfl, rfl, rfl, rfl⟩

namespace PollOk

/-- A POP leaves the poll context to its caller. -/
theorem pop {v : Byte} (h : PollOk s) (hp : s.popByte = .ok (v, t)) : PollOk t :=
  h.congr (by simp [SamePoll, SameLine, State.popByte_keeps hp])

/-- In IDLE a READ_WAIT may be held or not (R104). -/
theorem setHeld (h : PollOk s) (hp : s.phase = Phase.idle) (b : Bool) : PollOk (s.setHeld b) :=
  ⟨h.phase_named, h.kind_used, h.ack_buf_length, h.ack_pos, fun _ => hp, h.tok_chars⟩

/-- The phases up to CLASSIFY: no line is composed, so only the token matters, and that no READ_WAIT is held. -/
theorem advance (h : PollOk s) {p : BitVec 4} {tok : Token} (hh : s.readHeld = false) (h6 : s.phase.toNat ≤ 6)
    (hp : p.toNat ≤ 6) (ht : ∀ c ∈ tok.chars.take (fetched p), tokenChar c = true) :
    PollOk ((s.setTok tok).setPhase p) where
  phase_named := Nat.le_trans hp (by decide)
  kind_used hk := by
    have : p = Phase.clear ∨ p = Phase.ack := hk
    rcases this with rfl | rfl <;> simp at hp
  ack_buf_length := h.ack_buf_length
  ack_pos := (ackPosLegal_early (s := (s.setTok tok).setPhase p) hp).2 ((ackPosLegal_early h6).1 h.ack_pos)
  held_idle hr := by simp [hh] at hr
  tok_chars := ht

/-- Outside IDLE no READ_WAIT is held. -/
theorem not_held (h : PollOk s) (hp : s.phase.toNat ≠ 0) : s.readHeld = false := by
  cases hr : s.readHeld with
  | false => rfl
  | true => exact absurd (congrArg BitVec.toNat (h.held_idle hr)) hp

/-- In FETCHk the first `k` characters are fetched, and from DRAIN on all four. -/
theorem fetched_chars (h : PollOk s) {k : Nat} (hk : min (s.phase.toNat - 1) 4 = k) :
    ∀ c ∈ s.tok.chars.take k, tokenChar c = true := by
  have := h.tok_chars
  rwa [fetched_eq, hk] at this

/-- A FETCH that stores the character `c` has one character more (R133). -/
theorem store (h : PollOk s) {k : Nat} {c : Byte} (hk : k ≤ 3) (hp : s.phase.toNat = k + 1) (hc : tokenChar c = true) :
    PollOk ((s.setTok (s.tok.put k c)).setPhase (Phase.afterFetch k)) := by
  have hnext := afterFetch_toNat hk
  refine h.advance (h.not_held (by omega)) (by omega) (by omega) ?_
  rw [fetched_eq, hnext, show min (k + 2 - 1) 4 = k + 1 by omega, Token.take_chars_put hk]
  intro x hx
  rcases List.mem_append.1 hx with hx | hx
  · exact h.fetched_chars (by omega) x hx
  · rwa [List.mem_singleton.1 hx]

/-- A FETCH that ends the token pads it with spaces (R133). -/
theorem pad (h : PollOk s) {k : Nat} (hk : k ≤ 3) (hp : s.phase.toNat = k + 1) :
    PollOk ((s.setTok (s.tok.padFrom k)).setPhase Phase.drain) := by
  refine h.advance (h.not_held (by omega)) (by omega) (by decide) fun x hx => ?_
  have hx := List.mem_of_mem_take hx
  rw [Token.chars_padFrom hk] at hx
  rcases List.mem_append.1 hx with hx | hx
  · exact h.fetched_chars (by omega) x hx
  · rw [List.eq_of_mem_replicate hx]
    decide

/-- CLASSIFY composes a line that fits in `ack_buf` (R79, R135). -/
theorem finishClassify (h : PollOk s) {k : BitVec 2} {line : List Byte} (hp : s.phase = Phase.classify)
    (hk : k ≠ Kind.unused) (h21 : 21 ≤ line.length) (h31 : line.length ≤ 31) :
    PollOk (s.finishClassify k line) where
  phase_named := by simp
  kind_used _ := hk
  ack_buf_length := by
    have hb := h.ack_buf_length
    rw [State.finishClassify_ackBuf, overwrite_length (by simpa [hb, ackMax] using h31), hb]
  ack_pos := by
    rw [ackPosLegal_clear (State.finishClassify_phase ..)]
    refine ⟨rfl, ?_⟩
    rw [State.finishClassify_ackLen, BitVec.toNat_ofNat, Nat.mod_eq_of_lt (by omega)]
    exact h21
  held_idle hr := absurd (h.held_idle hr) (by rw [hp]; decide)
  tok_chars := h.fetched_chars (k := 4) (by simp [hp])

/-- CLEAR enters ACK at the line's first byte (R136). -/
theorem clear (h : PollOk s) (hp : s.phase = Phase.clear) : PollOk (s.setPhase Phase.ack) where
  phase_named := by simp
  kind_used _ := h.kind_used (.inl hp)
  ack_buf_length := h.ack_buf_length
  ack_pos := by
    obtain ⟨hi, hl⟩ := (ackPosLegal_clear hp).1 h.ack_pos
    rw [ackPosLegal_ack rfl]
    refine ⟨?_, hl⟩
    rw [State.setPhase_ackI, hi]
    exact Nat.lt_of_lt_of_le (by decide) hl
  held_idle hr := absurd (h.held_idle hr) (by rw [hp]; decide)
  tok_chars := h.fetched_chars (k := 4) (by simp [hp])

/-- ACK at a byte that is not the line's last one goes to the next byte (R137). -/
theorem ackNext (h : PollOk s) (hp : s.phase = Phase.ack) (hl : s.ackI.toNat + 1 ≠ s.ackLen.toNat) :
    PollOk (s.setAckPos s.ackLen (s.ackI + 1#5)) where
  phase_named := h.phase_named
  kind_used := h.kind_used
  ack_buf_length := h.ack_buf_length
  ack_pos := by
    obtain ⟨hi, hlen⟩ := (ackPosLegal_ack hp).1 h.ack_pos
    rw [ackPosLegal_ack (State.setAckPos_phase .. ▸ hp)]
    refine ⟨?_, hlen⟩
    show (s.ackI + 1#5).toNat < s.ackLen.toNat
    bv_omega
  held_idle := h.held_idle
  tok_chars := h.tok_chars

end PollOk

theorem Effect.pollOk (h : Effect i s t) (hs : PollOk s) : PollOk t := by
  cases h with
  | rxTerm _ _ _ hp | rxData _ _ _ _ _ hp | push _ _ _ _ hp =>
    exact hs.congr (by simp [SamePoll, SameLine, State.pushByte_keeps hp])
  | pop _ v _ hp => exact hs.pop hp
  | poll _ hi hh _ =>
    have hfetch := hs.advance (p := Phase.fetch0) (tok := s.tok) hh (by simp [hi]) (by decide) (by simp [fetched_eq])
    exact hfetch.congr ⟨rfl, rfl, rfl, rfl, rfl, rfl, rfl⟩
  | hold _ hi _ => exact hs.setHeld hi true
  | readWait _ v u hi _ hp =>
    have hlift := (hs.pop hp).setHeld (by rw [State.popByte_phase hp, hi]) false
    exact hlift.congr ⟨rfl, rfl, rfl, rfl, rfl, rfl, rfl⟩
  | fetchEnd _ k _ v u hk hi hp _ => exact (hs.pop hp).pad (fetch_index_le hk) (by rw [State.popByte_phase hp, hi])
  | fetchChar _ k _ v u hk hi hp hv =>
    exact (hs.pop hp).store (fetch_index_le hk) (by rw [State.popByte_phase hp, hi]) (tokenChar_fold hv)
  | drain _ v u hi hp =>
    have hu := hs.pop hp
    have h5 : u.phase.toNat = 5 := by rw [State.popByte_phase hp, hi]; rfl
    exact hu.advance (tok := u.tok) (hu.not_held (by omega)) (by omega) (by decide)
      (hu.fetched_chars (k := 4) (by omega))
  | table _ _ n _ hi _ =>
    obtain ⟨h21, h31⟩ := matchLine_fits s.tok n
    exact (hs.congr (s.setShared_samePoll ..)).finishClassify hi (by decide) h21 h31
  | page _ _ _ hi =>
    obtain ⟨h21, h31⟩ := pageLine_fits s.tok (pageNumber s.tok)
    exact (hs.congr (s.setShared_samePoll ..)).finishClassify hi (by decide) h21 h31
  | unknown _ _ _ hi =>
    obtain ⟨h21, h31⟩ := unknownLine_fits s.tok
    have hline := (hs.congr (s.setShared_samePoll s.cfg.notFoundOrd s.prevCmd s.curMp s.prevMp)).finishClassify
      (k := Kind.unknown) hi (by decide) h21 h31
    exact hline.congr (by simp [State.classifyUnknown, SamePoll, SameLine])
  | clear _ hi => exact (hs.clear hi).congr (by simp [SamePoll, SameLine])
  | ackLast => exact .of_idle rfl hs.ack_buf_length rfl rfl
  | ackNext _ b hi _ hl => exact (hs.ackNext hi hl).congr ⟨rfl, rfl, rfl, rfl, rfl, rfl, rfl⟩
  | reset => exact .of_idle rfl hs.ack_buf_length rfl rfl
  | _ => exact hs.congr ⟨rfl, rfl, rfl, rfl, rfl, rfl, rfl⟩

/-! ### One operation, one step -/

/-- An operation that completes keeps the invariant. -/
theorem Effect.legal (h : Effect i s t) (hs : Legal s) : Legal t := by
  obtain ⟨⟨hcfg, hrom⟩, hr, hsh, hp⟩ := (legal_iff s).1 hs
  obtain ⟨hcfg', hrom', -⟩ := h.sameFixed
  exact (legal_iff t).2 ⟨⟨hcfg' ▸ hcfg, hrom' ▸ hrom⟩, h.ringOk hr, h.sharedOk hsh, h.pollOk hp⟩

/-- `Legal` says nothing about the trace, what follows it, and the draws. -/
theorem Legal.consume (hs : Legal s) : Legal s.consume := by
  rw [s.consume_eq]
  exact { hs with }

/-- Settles O9: the operation of a step keeps each part of `Legal`, and taking an item off the trace touches none. -/
theorem everyStepKeepsTheLegalState : Obligations.EveryStepKeepsTheLegalState := by
  intro s t hs h
  rcases step_cases h with ⟨-, -, -, -, rfl⟩ | ⟨w, i, -, -, -, he⟩
  · exact hs.consume
  · exact he.legal hs.consume

end Sys2Proof.Machine
end

section
/-! SUPPORT. What no step writes, the state after RESET, and status reads. -/

namespace Sys2Proof.Machine

/-- Settles O11: no operation and no item of the trace writes ROM or the parameters. -/
theorem romAndParametersNeverChange : Obligations.RomAndParametersNeverChange := by
  intro s t h
  rcases step_cases h with ⟨-, -, -, -, rfl⟩ | ⟨w, i, -, -, -, he⟩
  · simp
  · obtain ⟨hcfg, hrom, -⟩ := he.sameFixed
    exact ⟨by rw [hrom, State.consume_rom], by rw [hcfg, State.consume_cfg]⟩

/-- Settles O8: after RESET the ring is empty at index 0, the shared registers are 0, and in IDLE the registers that R41
leaves unspecified may hold anything. -/
theorem resetStateIsLegal : Obligations.ResetStateIsLegal := by
  have hall : ∀ (c : Config) (tok : Token) (kind : BitVec 2) (buf : List Byte), c.wf → buf.length = 31 →
      Legal { State.resetWith c with tok := tok, kind := kind, ackBuf := buf } := by
    intro c tok kind buf hc hb
    have hn : 0 < c.n := by have := hc.1; omega
    exact (legal_iff _).2 ⟨⟨hc, rfl⟩, .of_zero hn rfl rfl rfl (by simp [State.resetWith]), .of_zero rfl rfl rfl rfl,
      .of_idle rfl hb rfl rfl⟩
  exact ⟨hall Config.vectors _ _ _ (by decide) rfl, hall⟩

/-- Settles O50: neither read looks at the output that it writes. -/
theorem statusReadHasNoSideEffect : Obligations.StatusReadHasNoSideEffect := by
  intro s a
  have hbyte (s : State) :
      exec (.stRead false a) s = .next (s.setOut { s.out with stData := some (.byte (s.statusByte a)) }) := rfl
  have hhalf (s : State) (ha : a.toNat % 2 = 0) :
      exec (.stRead true a) s = .next (s.setOut { s.out with stData := some (.half (s.statusHalf a)) }) := if_pos ha
  refine ⟨hbyte s, hhalf s, ?_⟩
  intro wide t h
  cases wide with
  | false =>
    rw [hbyte] at h
    cases h
    rfl
  | true =>
    by_cases ha : a.toNat % 2 = 0
    · rw [hhalf s ha] at h
      cases h
      exact hhalf _ ha
    · simp [exec, execStRead, ha] at h

end Sys2Proof.Machine
end

section
/-! SUPPORT. The status view (R37, R38, R51). -/

namespace Sys2Proof.Machine

/-- A concatenation's value: `y` stands in the low bits. -/
theorem toNat_append_eq_add {m n : Nat} (x : BitVec m) (y : BitVec n) :
    (x ++ y).toNat = 2 ^ n * x.toNat + y.toNat := by
  rw [BitVec.toNat_append, ← Nat.shiftLeft_add_eq_or_of_lt y.isLt, Nat.shiftLeft_eq, Nat.mul_comm]

/-- The two bytes of a 16-bit field, the low one at the even offset, are the field (R51). -/
theorem highByte_append_lowByte (v : BitVec 16) : highByte v ++ lowByte v = v :=
  BitVec.extractLsb'_append_extractLsb' (w := 8) (len := 8)

section
variable (s : State)

theorem State.statusHalf_toNat (a : BitVec 4) :
    (s.statusHalf a).toNat = (s.statusByte a).toNat + 256 * (s.statusByte (a + 1#4)).toNat := by
  rw [State.statusHalf, toNat_append_eq_add]
  omega

/-- The 16-bit fields, at their offsets (R37). -/
theorem State.statusHalf_curMp : s.statusHalf 0x2#4 = s.curMp.zeroExtend 16 := highByte_append_lowByte _
theorem State.statusHalf_prevMp : s.statusHalf 0x4#4 = s.prevMp.zeroExtend 16 := highByte_append_lowByte _
theorem State.statusHalf_count : s.statusHalf 0x8#4 = BitVec.ofNat 16 s.count := highByte_append_lowByte _
theorem State.statusHalf_head : s.statusHalf 0xA#4 = BitVec.ofNat 16 s.head := highByte_append_lowByte _
theorem State.statusHalf_tail : s.statusHalf 0xC#4 = BitVec.ofNat 16 s.tail := highByte_append_lowByte _

/-- The five fields of STATUS at their places (R38). -/
theorem State.statusFlags_toNat :
    s.statusFlags.toNat =
      16 * s.phase.toNat + 8 * s.busy.toNat + 4 * s.rbFull.toNat + 2 * s.rbEmpty.toNat + s.frameReady.toNat := by
  simp only [State.statusFlags, toNat_append_eq_add, BitVec.toNat_ofBool]
  omega

end

/-- A flag at the place of value `k` in STATUS. -/
theorem mul_toNat_decide (k : Nat) (p : Prop) [Decidable p] : k * (decide p).toNat = if p then k else 0 := by
  by_cases h : p <;> simp [h]

theorem Legal.count_lt {s : State} (h : Legal s) : s.count < s.cfg.n := countOf_lt h.head_lt h.tail_lt

/-- In a legal state an index or a count fits in 16 bits: N is at most 65536 (R6). -/
theorem Legal.ofNat_toNat {s : State} (h : Legal s) {v : Nat} (hv : v < s.cfg.n) : (BitVec.ofNat 16 v).toNat = v := by
  obtain ⟨-, hn, -⟩ := h.cfg_wf
  exact Nat.mod_eq_of_lt (by omega)

/-- Settles O49: a 16-bit field read whole is the field, whose value fits in 16 bits, and STATUS is its five fields. -/
theorem statusViewShowsTheRegisters : Obligations.StatusViewShowsTheRegisters := by
  intro s h
  refine ⟨rfl, rfl, ?_, ?_, ?_, rfl, ?_, ?_, ?_, ?_, fun a _ => s.statusHalf_toNat a⟩
  · rw [s.statusHalf_curMp, BitVec.toNat_setWidth_of_le (by omega)]
  · rw [s.statusHalf_prevMp, BitVec.toNat_setWidth_of_le (by omega)]
  · show s.statusFlags.toNat = _
    simp only [s.statusFlags_toNat, State.busy, State.rbFull, State.rbEmpty, mul_toNat_decide]
    cases s.frameReady <;> rfl
  · rw [s.statusHalf_count, h.ofNat_toNat h.count_lt]
  · rw [s.statusHalf_head, h.ofNat_toNat h.head_lt]
  · rw [s.statusHalf_tail, h.ofNat_toNat h.tail_lt]
  · show 0#8 ++ 0#8 = 0#16
    decide

end Sys2Proof.Machine
end

section
/-! SUPPORT. Who writes what (R36), over every operation that completes. -/

namespace Sys2Proof.Machine

variable {i : Instr} {s t : State}

/-- A numbered FETCH is one of the four. -/
theorem fetch_cases {k : Nat} (h : (i, k) ∈ [(Instr.fetch0, 0), (.fetch1, 1), (.fetch2, 2), (.fetch3, 3)]) :
    i = .fetch0 ∨ i = .fetch1 ∨ i = .fetch2 ∨ i = .fetch3 := by
  simpa using List.mem_map_of_mem (f := Prod.fst) h

/-- Settles O52: way by way of completing, the registers that it writes are its own, and PUSH and POP keep the rest. -/
theorem eachFieldHasItsOwnWriter : Obligations.EachFieldHasItsOwnWriter := by
  intro i s t h
  cases exec_effect h with
  | rxTerm _ _ _ hp | rxData _ _ _ _ _ hp | push _ _ _ _ hp => simp [SameShared, State.pushByte_keeps hp]
  | pop _ _ _ hp | readWait _ _ _ _ _ hp | drain _ _ _ _ hp => simp [SameSlots, SameShared, State.popByte_keeps hp]
  | fetchEnd _ _ _ _ _ hk _ hp | fetchChar _ _ _ _ _ hk _ hp =>
    obtain rfl | rfl | rfl | rfl := fetch_cases hk <;> simp [SameSlots, SameShared, State.popByte_keeps hp]
  | table _ _ n hi => simp [SameSlots, hi, State.classifyMatch]
  | page _ _ hi => simp [SameSlots, hi, State.classifyPage]
  | unknown _ _ hi => simp [SameSlots, hi, State.classifyUnknown]
  | _ => simp [SameSlots, SameShared]

theorem frameReady_of_rxTerm (h : exec .rxTerm s = .next t) : t.frameReady = true := by
  simp only [exec, execRxTerm] at h
  split at h <;> cases h
  obtain ⟨ok, u, hp, rfl⟩ := State.takeRx_cases ‹_›
  simp [State.pushByte_keeps hp]

theorem frameReady_of_clear (h : exec .clear s = .next t) : t.frameReady = false := by
  obtain ⟨-, ht⟩ := State.atPhase_next.1 h
  cases ht
  simp

theorem frameReady_of_reset (h : exec .reset s = .next t) : t.frameReady = false := by
  cases h
  rfl

/-- Settles O53: only the flag's writers of R36 change it, and each of them writes one value. -/
theorem frameReadyIsSetByRxTermAndClearedByClear : Obligations.FrameReadyIsSetByRxTermAndClearedByClear := by
  intro i s t h
  obtain ⟨-, -, -, hwriter, -⟩ := eachFieldHasItsOwnWriter i s t h
  have hvalue : t.frameReady ≠ s.frameReady →
      (i = .rxTerm ∧ t.frameReady = true) ∨ ((i = .clear ∨ i = .reset) ∧ t.frameReady = false) := by
    intro hne
    rcases hwriter hne with rfl | rfl | rfl
    · exact .inl ⟨rfl, frameReady_of_rxTerm h⟩
    · exact .inr ⟨.inl rfl, frameReady_of_clear h⟩
    · exact .inr ⟨.inr rfl, frameReady_of_reset h⟩
  constructor
  · intro hs ht
    rcases hvalue (by simp [hs, ht]) with ⟨hi, -⟩ | ⟨-, hf⟩
    · exact hi
    · simp [ht] at hf
  · intro hs ht
    rcases hvalue (by simp [hs, ht]) with ⟨-, hf⟩ | ⟨hi, -⟩
    · simp [ht] at hf
    · exact hi

end Sys2Proof.Machine
end

section
/-! SUPPORT. Two runs that differ only in the ghost history and the latched outputs: every operation answers alike in the
two, shared operation by shared operation (R34, R40). -/

namespace Sys2Proof.Machine

/-- The state with another ghost history and other values on the output ports. -/
def State.observed (g : Ghost) (o : PortOut) (s : State) : State := { s with ghost := g, out := o }

/-- Two states differ at most in the ghost history and the latched outputs. -/
def Alike (s t : State) : Prop := ∃ g o, t = s.observed g o

/-- Two results are of one kind, with one reason, and with next states that are alike. -/
inductive AlikeResult : Result → Result → Prop where
  | next {s t : State} (h : Alike s t) : AlikeResult (.next s) (.next t)
  | fault (f : Fault) : AlikeResult (.fault f) (.fault f)
  | refused (r : Refusal) : AlikeResult (.refused r) (.refused r)

/-- Two runs of a PUSH or POP end alike: with one fault, or with one answer and states that are alike. -/
def AlikeAnswer {α : Type} (x y : Except Fault (α × State)) : Prop :=
  (∃ f, x = .error f ∧ y = .error f) ∨ ∃ v s t, x = .ok (v, s) ∧ y = .ok (v, t) ∧ Alike s t

namespace AlikeAnswer

variable {α : Type} {x x' y y' : Except Fault (α × State)}

theorem ok {v : α} {s t : State} (h : Alike s t) : AlikeAnswer (.ok (v, s)) (.ok (v, t)) := .inr ⟨v, s, t, rfl, rfl, h⟩

theorem error (f : Fault) : AlikeAnswer (α := α) (.error f) (.error f) := .inl ⟨f, rfl, rfl⟩

theorem ite {p : Prop} {d d' : Decidable p} (hx : p → AlikeAnswer x x') (hy : ¬p → AlikeAnswer y y') :
    AlikeAnswer (@ite _ p d x y) (@ite _ p d' x' y') := by
  by_cases hp : p
  · simpa only [if_pos hp] using hx hp
  · simpa only [if_neg hp] using hy hp

end AlikeAnswer

namespace AlikeResult

theorem of_next {s : State} {r : Result} (h : AlikeResult (.next s) r) : ∃ g o, r = .next (s.observed g o) := by
  cases h with
  | next ht =>
    obtain ⟨g, o, rfl⟩ := ht
    exact ⟨g, o, rfl⟩

theorem of_fault {f : Fault} {r : Result} (h : AlikeResult (.fault f) r) : r = .fault f := by
  cases h
  rfl

theorem of_refused {x : Refusal} {r : Result} (h : AlikeResult (.refused x) r) : r = .refused x := by
  cases h
  rfl

/-- A choice on which the two runs agree. -/
theorem ite {p : Prop} {d d' : Decidable p} {x x' y y' : Result} (hx : p → AlikeResult x x')
    (hy : ¬p → AlikeResult y y') : AlikeResult (@ite _ p d x y) (@ite _ p d' x' y') := by
  by_cases hp : p
  · simpa only [if_pos hp] using hx hp
  · simpa only [if_neg hp] using hy hp

end AlikeResult

variable (s t : State) (g : Ghost) (o : PortOut)

/-! ### PUSH and POP -/

section
variable {s t}

theorem State.ringWrite_outside {a : Nat} {b : Byte} (h : ¬a < s.cfg.n) : s.ringWrite a b = .error .ringOutside :=
  if_neg h

theorem ringWrite_observed (a : Nat) (b : Byte) (g : Ghost) (o : PortOut) :
    (s.observed g o).ringWrite a b = (s.ringWrite a b).map (State.observed g o) := by
  by_cases h : a < s.cfg.n
  · rw [s.ringWrite_inside a b h, (s.observed g o).ringWrite_inside a b h]
    rfl
  · rw [State.ringWrite_outside h, State.ringWrite_outside (s := s.observed g o) h]
    rfl

theorem pushByte_alike (h : Alike s t) (b : Byte) : AlikeAnswer (s.pushByte b) (t.pushByte b) := by
  obtain ⟨g, o, rfl⟩ := h
  have hwrite : (s.observed g o).ringWrite (s.observed g o).tail b = (s.ringWrite s.tail b).map (State.observed g o) :=
    ringWrite_observed ..
  refine .ite (fun _ => .ok ⟨_, _, rfl⟩) (fun _ => ?_)
  rw [hwrite]
  cases s.ringWrite s.tail b with
  | error f => exact .error f
  | ok u => exact .ok ⟨_, _, rfl⟩

theorem popByte_alike (h : Alike s t) : AlikeAnswer s.popByte t.popByte := by
  obtain ⟨g, o, rfl⟩ := h
  have hread : (s.observed g o).ringRead (s.observed g o).head = s.ringRead s.head := rfl
  refine .ite (fun _ => .ok ⟨_, _, rfl⟩) (fun _ => ?_)
  rw [hread]
  cases s.ringRead s.head with
  | error f => exact .error f
  | ok b => exact .ok ⟨_, _, rfl⟩

theorem logIf_alike (h : Alike s t) (c : Bool) (e : GhostEvent) : Alike (s.logIf c e) (t.logIf c e) := by
  obtain ⟨g, o, rfl⟩ := h
  cases c <;> exact ⟨_, _, rfl⟩

theorem dropReady_alike (h : Alike s t) : Alike s.dropReady t.dropReady := by
  obtain ⟨g, o, rfl⟩ := h
  unfold State.dropReady State.logIf
  split <;> split <;> exact ⟨_, _, rfl⟩

/-- Taking an RX event: the echo is the same, whether the push was accepted or not. -/
theorem takeRx_alike (h : Alike s t) (b : Byte) (echo : List Byte) (drop : GhostEvent) :
    (∃ f, s.takeRx b echo drop = .error f ∧ t.takeRx b echo drop = .error f) ∨
    ∃ u v, s.takeRx b echo drop = .ok u ∧ t.takeRx b echo drop = .ok v ∧ Alike u v := by
  unfold State.takeRx
  rcases pushByte_alike h b with ⟨f, hs, ht⟩ | ⟨ok, u, v, hs, ht, g, o, rfl⟩ <;> simp only [hs, ht]
  · exact .inl ⟨f, rfl, rfl⟩
  · exact .inr ⟨_, _, rfl, rfl, logIf_alike ⟨g, o, rfl⟩ _ _⟩

namespace AlikeResult

variable {r r' : Result}

theorem atPhase (h : AlikeResult r r') (p : BitVec 4) : AlikeResult (s.atPhase p r) ((s.observed g o).atPhase p r') :=
  .ite (fun _ => h) (fun _ => .refused _)

theorem whenIdle (h : AlikeResult r r') : AlikeResult (s.whenIdle r) ((s.observed g o).whenIdle r') :=
  .ite (fun _ => .ite (fun _ => .refused _) (fun _ => h)) (fun _ => .refused _)

theorem whenToken (h : AlikeResult r r') (here : Bool) :
    AlikeResult (s.whenToken here r) ((s.observed g o).whenToken here r') :=
  .atPhase g o (.ite (fun _ => h) (fun _ => .refused _)) _

theorem fetchChar (k : Nat) : AlikeResult (s.fetchChar k) ((s.observed g o).fetchChar k) := by
  unfold State.fetchChar
  rcases popByte_alike (s := s) ⟨g, o, rfl⟩ with ⟨f, hs, ht⟩ | ⟨v, u, u', hs, ht, g', o', rfl⟩ <;> simp only [hs, ht]
  · exact .fault f
  · split <;> exact .next ⟨_, _, rfl⟩

theorem classifyUnknown : AlikeResult (.next s.classifyUnknown) (.next (s.observed g o).classifyUnknown) :=
  .next (logIf_alike (c := s.tok.t0 == letterM) ⟨_, _, rfl⟩ _)

theorem runCommand (w : BitVec 32) (n : Nat) : AlikeResult (s.runCommand w n) ((s.observed g o).runCommand w n) :=
  whenToken g o (.next ⟨_, _, rfl⟩) _

end AlikeResult

end

/-- No operation reads the ghost history or the latched outputs. -/
theorem exec_alike (i : Instr) : AlikeResult (exec i s) (exec i (s.observed g o)) := by
  have hsame : Alike s (s.observed g o) := ⟨g, o, rfl⟩
  cases i
  case rxTerm =>
    simp only [exec, execRxTerm]
    have hraise : Alike s.raiseReady (s.observed g o).raiseReady := ⟨_, _, rfl⟩
    rcases takeRx_alike hraise sent [term, lineFeed] .dropSent with ⟨f, hs, ht⟩ | ⟨u, v, hs, ht, hu⟩ <;>
      simp only [hs, ht]
    · exact .fault f
    · exact .next hu
  case rxData b =>
    refine .ite (fun _ => .refused _) (fun _ => ?_)
    rcases takeRx_alike hsame b [b] .dropData with ⟨f, hs, ht⟩ | ⟨u, v, hs, ht, hu⟩ <;> simp only [hs, ht]
    · exact .fault f
    · exact .next hu
  case nop => exact .whenIdle g o (.next ⟨_, _, rfl⟩)
  case hopReserved => exact .whenIdle g o (.next ⟨_, _, rfl⟩)
  case pollNoframe => exact .whenIdle g o (.ite (fun _ => .refused _) (fun _ => .next ⟨_, _, rfl⟩))
  case pollFrame => exact .whenIdle g o (.ite (fun _ => .next ⟨_, _, rfl⟩) (fun _ => .refused _))
  case readWait =>
    refine .ite (fun _ => .ite (fun _ => .next ⟨_, _, rfl⟩) (fun _ => ?_)) (fun _ => .refused _)
    rcases popByte_alike hsame with ⟨f, hs, ht⟩ | ⟨v, u, u', hs, ht, g', o', rfl⟩ <;> simp only [hs, ht]
    · exact .fault f
    · exact .next ⟨_, _, rfl⟩
  case count => exact .whenIdle g o (.next ⟨_, _, rfl⟩)
  case push b =>
    simp only [exec, execPush]
    rcases pushByte_alike hsame b with ⟨f, hs, ht⟩ | ⟨ok, u, u', hs, ht, hu⟩ <;> simp only [hs, ht]
    · exact .fault f
    · exact .next hu
  case pop =>
    simp only [exec, execPop]
    rcases popByte_alike hsame with ⟨f, hs, ht⟩ | ⟨v, u, u', hs, ht, hu⟩ <;> simp only [hs, ht]
    · exact .fault f
    · exact .next hu
  case rbCount => exact .next ⟨_, _, rfl⟩
  case fetch0 => exact .atPhase g o (.fetchChar g o 0) _
  case fetch1 => exact .atPhase g o (.fetchChar g o 1) _
  case fetch2 => exact .atPhase g o (.fetchChar g o 2) _
  case fetch3 => exact .atPhase g o (.fetchChar g o 3) _
  case drain =>
    refine .atPhase g o ?_ _
    rcases popByte_alike hsame with ⟨f, hs, ht⟩ | ⟨v, u, u', hs, ht, g', o', rfl⟩ <;> simp only [hs, ht]
    · exact .fault f
    · exact .next ⟨_, _, rfl⟩
  case classify =>
    refine .atPhase g o ?_ _
    have hclass : classOf (s.observed g o).rom (s.observed g o).tok = classOf s.rom s.tok := rfl
    rw [hclass]
    cases classOf s.rom s.tok with
    | table n => exact .next ⟨_, _, rfl⟩
    | page => exact .next ⟨_, _, rfl⟩
    | unknown => exact .classifyUnknown g o
  case clear =>
    refine .atPhase g o ?_ _
    obtain ⟨g', o', h⟩ := dropReady_alike hsame
    rw [h]
    exact .next ⟨g', o', rfl⟩
  case ack =>
    refine .atPhase g o (.ite (fun _ => .fault _) (fun _ => ?_)) _
    have hbyte : (s.observed g o).ackBuf[(s.observed g o).ackI.toNat]? = s.ackBuf[s.ackI.toNat]? := rfl
    rw [hbyte]
    cases s.ackBuf[s.ackI.toNat]? with
    | none => exact .fault _
    | some b => exact .ite (fun _ => .next ⟨_, _, rfl⟩) (fun _ => .next ⟨_, _, rfl⟩)
  case idle => exact .atPhase g o (.next ⟨_, _, rfl⟩) _
  case phaseUnused p => exact .fault _
  case mReserved => exact .whenToken g o (.classifyUnknown g o) _
  case motionPage b c d => exact .whenToken g o (.next ⟨_, _, rfl⟩) _
  case notFound a b c d => exact .whenToken g o (.classifyUnknown g o) _
  case reset => exact .next ⟨_, _, rfl⟩
  case stRead wide a =>
    simp only [exec, execStRead]
    split_ifs
    · exact .next ⟨_, _, rfl⟩
    · exact .refused _
    · exact .next ⟨_, _, rfl⟩
  all_goals exact .runCommand g o _ _

/-! ### The next step's port bits -/

theorem State.observed_drawRound : (s.observed g o).drawRound = s.drawRound.observed g o := by
  unfold State.drawRound
  rw [apply_ite (State.observed g o)]
  rfl

theorem State.observed_refill : (s.observed g o).refill = s.refill.observed g o := by
  cases h : s.sched with
  | cons x rest => rw [s.refill_cons h, State.refill_cons (s.observed g o) h]
  | nil =>
    cases he : s.env.endless with
    | false => rw [s.refill_quiet he, State.refill_quiet (s.observed g o) he]
    | true => rw [s.refill_endless h he, State.refill_endless (s.observed g o) h he, State.observed_drawRound]

theorem State.observed_nextWord : (s.observed g o).nextWord = s.nextWord := by
  rw [State.nextWord, State.observed_refill]
  rfl

theorem State.observed_consume : (s.observed g o).consume = s.consume.observed g o := by
  have hsched : (s.refill.observed g o).sched = s.refill.sched := rfl
  unfold State.consume
  rw [State.observed_refill, hsched]
  cases s.refill.sched with
  | nil => rfl
  | cons x rest => cases x <;> rfl

/-- No step reads the ghost history or the latched outputs. -/
theorem step_alike : AlikeResult (step s) (step (s.observed g o)) := by
  have hready : (s.observed g o).frameReady = s.frameReady := rfl
  unfold step
  rw [State.observed_nextWord, State.observed_consume, hready]
  cases s.nextWord with
  | none => exact .next ⟨g, o, rfl⟩
  | some w =>
    dsimp only
    cases decode s.frameReady w with
    | error e => exact .refused _
    | ok i => exact exec_alike _ g o i

/-- Settles O55: the two steps answer alike. -/
theorem ghostAndOutputsInfluenceNothing : Obligations.GhostAndOutputsInfluenceNothing := by
  intro s g o
  have h := step_alike s g o
  exact ⟨fun t hs => (hs ▸ h).of_next, fun f hs => (hs ▸ h).of_fault, fun r hs => (hs ▸ h).of_refused⟩

end Sys2Proof.Machine
end

section
/-! SUPPORT. The ring read through the PUSH and POP operations (R56, R101, R102). -/

namespace Sys2Proof.Machine

variable {s t : State}

/-- A PUSH completes exactly as its shared operation does. -/
theorem exec_push_next {b : Byte} : exec (.push b) s = .next t ↔ ∃ ok, s.pushByte b = .ok (ok, t) := by
  simp only [exec, execPush]
  cases s.pushByte b with
  | error f => simp
  | ok r => simp [Prod.ext_iff]

/-- A POP completes exactly as its shared operation does. -/
theorem exec_pop_next : exec .pop s = .next t ↔ ∃ v, s.popByte = .ok (v, t) := by
  simp only [exec, execPop]
  cases s.popByte with
  | error f => simp
  | ok r => simp [Prod.ext_iff]

theorem Legal.ringOk (h : Legal s) : RingOk s := ⟨h.head_lt, h.tail_lt, h.rb_wf, h.rb_inside, h.occupied⟩

/-- Every occupied slot gives a byte. -/
theorem RingOk.contents_length (h : RingOk s) : s.contents.length = s.count := by
  rw [State.contents_eq]
  exact slotsOf_length h.occupied

theorem State.popByte_rdData {v : Byte} (h : s.popByte = .ok (v, t)) : t.out.rdData = some v := by
  rw [State.popByte_frame h]

/-- Settles O16: the occupied slots are a queue, which a PUSH extends at its end and a POP shortens at its front. -/
theorem ringIsFirstInFirstOut : Obligations.RingIsFirstInFirstOut := by
  refine ⟨fun s hs => hs.ringOk.contents_length, fun s t b hs h => ?_, fun s t hs h => ?_⟩
  · obtain ⟨ok, hp⟩ := exec_push_next.1 h
    obtain ⟨-, hcontents, -⟩ := hs.ringOk.push hp
    exact hcontents
  · obtain ⟨v, hp⟩ := exec_pop_next.1 h
    obtain ⟨-, hcontents, hv, -⟩ := hs.ringOk.pop hp
    exact ⟨hcontents, by rw [State.popByte_rdData hp, hv]⟩

end Sys2Proof.Machine
end

section
/-! SUPPORT. What an operation appends to the TX stream (R58, R81). -/

namespace Sys2Proof.Machine

variable {i : Instr} {s t : State}

/-- An RX event appends its echo of one or two bytes, ACK one byte, and no other operation anything. -/
theorem Effect.tx_grows (h : Effect i s t) : ∃ bs, t.tx = s.tx ++ bs ∧ bs.length ≤ 2 := by
  cases h with
  | rxTerm _ _ _ hp => exact ⟨[term, lineFeed], by simp [State.pushByte_keeps hp], by simp⟩
  | rxData _ b _ _ _ hp => exact ⟨[b], by simp [State.pushByte_keeps hp], by simp⟩
  | ackLast _ b | ackNext _ b => exact ⟨[b], rfl, by simp⟩
  | push _ _ _ _ hp => exact ⟨[], by simp [State.pushByte_keeps hp], by simp⟩
  | pop _ _ _ hp | readWait _ _ _ _ _ hp | fetchEnd _ _ _ _ _ _ _ hp | fetchChar _ _ _ _ _ _ _ hp | drain _ _ _ _ hp =>
    exact ⟨[], by simp [State.popByte_keeps hp], by simp⟩
  | _ => exact ⟨[], by simp [State.classifyMatch, State.classifyPage, State.classifyUnknown], by simp⟩

/-- Settles O54: taking an item off the trace leaves TX, and the operation appends to it. -/
theorem theTxStreamOnlyGrows : Obligations.TheTxStreamOnlyGrows := by
  intro s t h
  rcases step_cases h with ⟨-, -, -, -, rfl⟩ | ⟨w, i, -, -, -, he⟩
  · exact ⟨[], by simp, by simp⟩
  · simpa using he.tx_grows

end Sys2Proof.Machine
end

section
/-! SUPPORT. Which operation a step runs, by the trace's next item (R55, R132, R250). -/

namespace Sys2Proof.Machine

variable {s : State}

/-! ### The port bits of a step, item by item -/

section
variable {rest : List Stimulus}

theorem State.nextWord_rx {b : Byte} (h : s.sched = .rx b :: rest) : s.nextWord = some (.rxb8 b) := by
  simp only [State.nextWord, s.refill_cons h, h]

theorem State.nextWord_host {op : BitVec 3} (h : s.sched = .host op :: rest) : s.nextWord = some (.hop3 op) := by
  simp only [State.nextWord, s.refill_cons h, h]

theorem State.nextWord_stRead {wide : Bool} {a : BitVec 4} (h : s.sched = .stRead wide a :: rest) :
    s.nextWord = some (.strd wide a) := by
  simp only [State.nextWord, s.refill_cons h, h]

theorem State.nextWord_stWrite {a : BitVec 4} {d : BitVec 16} (h : s.sched = .stWrite a d :: rest) :
    s.nextWord = none := by
  simp only [State.nextWord, s.refill_cons h, h]

theorem State.nextWord_turn (h : s.sched = .turn :: rest) : s.nextWord = some s.pollWord := by
  simp only [State.nextWord, s.refill_cons h, h]

/-- An item other than RESET is taken off and nothing else changes. -/
theorem State.consume_cons {x : Stimulus} (h : s.sched = x :: rest) (hx : ∀ arriving, x ≠ .rst arriving) :
    s.consume = { s with sched := rest } := by
  unfold State.consume
  rw [s.refill_cons h, h]
  cases x with
  | rst arriving => exact absurd rfl (hx arriving)
  | _ => rfl

end

/-- At the trace's end, when nothing follows it, the poll context has its turn (R250). -/
theorem State.nextWord_end (h : s.sched = []) (he : s.env.endless = false) : s.nextWord = some s.pollWord := by
  simp only [State.nextWord, s.refill_quiet he, h]

theorem State.consume_end (h : s.sched = []) (he : s.env.endless = false) : s.consume = s := by
  simp only [State.consume, s.refill_quiet he, h]

/-! ### The operation of a step -/

/-- A step whose port bits decode runs that operation. -/
theorem step_of_decode {w : PortWord} {i : Instr} (hw : s.nextWord = some w) (hi : decode s.frameReady w = .ok i) :
    step s = exec i s.consume := by
  simp only [step, hw, hi]

/-- The step on an item of the trace that is neither RESET nor a status write. -/
theorem step_of_item {x : Stimulus} {rest : List Stimulus} {w : PortWord} {i : Instr} (h : s.sched = x :: rest)
    (hx : ∀ arriving, x ≠ .rst arriving) (hw : s.nextWord = some w) (hi : decode s.frameReady w = .ok i) :
    step s = exec i { s with sched := rest } := by
  rw [step_of_decode hw hi, State.consume_cons h hx]

theorem step_of_stWrite {a : BitVec 4} {d : BitVec 16} {rest : List Stimulus} (h : s.sched = .stWrite a d :: rest) :
    step s = .next { s with sched := rest } := by
  simp only [step, State.nextWord_stWrite h, State.consume_cons h (by simp), State.statusWrite]

/-- The poll context's turn is the micro-step that `phase` names (R132). -/
theorem decode_pollWord (hh : ¬(s.readHeld = true ∧ s.phase = Phase.idle)) :
    decode s.frameReady s.pollWord = .ok (decodeSeq s.phase) := by
  have hw : s.pollWord = .seq4 s.phase := if_neg (by simpa using hh)
  rw [hw, decode]

/-- With a READ_WAIT held it is the re-test of its condition (R207). -/
theorem decode_pollWord_held (hh : s.readHeld = true) (hp : s.phase = Phase.idle) :
    decode s.frameReady s.pollWord = .ok .readWait := by
  have hw : s.pollWord = .hop3 0b010#3 := if_pos (by simp [hh, hp])
  rw [hw]
  rfl

/-! ### A round of an endless run -/

theorem State.takesRequest_iff : s.takesRequest = true ↔ s.phase = Phase.idle ∧ s.readHeld = false := by
  simp [State.takesRequest]

/-- The HOST's next request is the first of those ahead, or the POLL after them. -/
theorem Environment.request_fst (e : Environment) : e.request.1 = (e.ahead ++ [0b001#3]).headD 0b000#3 := by
  unfold Environment.request
  cases e.ahead <;> rfl

/-- A round ends with the HOST's request when the poll context can take one and the HOST polls, else with a turn. -/
theorem State.drawRound_sched (s : State) :
    ∃ arrived, (∀ x ∈ arrived, fromOutside x = true) ∧
      s.drawRound.sched = arrived ++
        [if s.phase = Phase.idle ∧ s.readHeld = false ∧ s.env.polls = true then .host s.env.request.1 else .turn] := by
  obtain ⟨arrived, hout, ⟨ht, hpolls, hr⟩ | ⟨hno, hr⟩⟩ := s.drawRound_cases
  · obtain ⟨hp, hh⟩ := State.takesRequest_iff.1 ht
    exact ⟨arrived, hout, by rw [hr, if_pos ⟨hp, hh, hpolls⟩]; rfl⟩
  · have hturn : ¬(s.phase = Phase.idle ∧ s.readHeld = false ∧ s.env.polls = true) := by
      rintro ⟨hp, hh, hpolls⟩
      simp [State.takesRequest_iff.2 ⟨hp, hh⟩, hpolls] at hno
    exact ⟨arrived, hout, by rw [hr, if_neg hturn]; rfl⟩

/-- Settles O7: item by item, the port bits, the operation they decode to, and the state with the item taken off. -/
theorem stepRunsTheDecodedInstruction : Obligations.StepRunsTheDecodedInstruction := by
  refine ⟨fun _ _ _ => step_of_decode, fun s b rest h => ?rx, fun s op rest h => ?host, fun s wide a rest h => ?stRead,
    fun _ _ _ _ => step_of_stWrite, fun s rest h hh => ?turn, fun s rest h hh hp => ?turnHeld, fun s h he hh => ?last,
    fun s h he hh hp => ?lastHeld, fun s h he => ?round⟩
  case rx => exact step_of_item h (by simp) (State.nextWord_rx h) rfl
  case host => exact step_of_item h (by simp) (State.nextWord_host h) rfl
  case stRead => exact step_of_item h (by simp) (State.nextWord_stRead h) rfl
  case turn => exact step_of_item h (by simp) (State.nextWord_turn h) (decode_pollWord hh)
  case turnHeld => exact step_of_item h (by simp) (State.nextWord_turn h) (decode_pollWord_held hh hp)
  case last => rw [step_of_decode (State.nextWord_end h he) (decode_pollWord hh), State.consume_end h he]
  case lastHeld => rw [step_of_decode (State.nextWord_end h he) (decode_pollWord_held hh hp), State.consume_end h he]
  case round =>
    obtain ⟨arrived, hout, hsched⟩ := s.drawRound_sched
    rw [← s.refill_endless h he, s.env.request_fst] at hsched
    exact ⟨(step_refill s).symm, arrived, hout, hsched, s.refill_eq⟩

end Sys2Proof.Machine
end

section
/-! SUPPORT. The one status read that is refused (R52). -/

namespace Sys2Proof.Machine

/-- Settles O51: a 16-bit read is taken only at an even offset. -/
theorem oddWideStatusReadIsRefused : Obligations.OddWideStatusReadIsRefused := by
  intro s a ha
  have hodd : ¬a.toNat % 2 = 0 := by omega
  exact if_neg hodd

end Sys2Proof.Machine
end

section
/-! SUPPORT. Token words: what the decoder reads from a token, in the order of R84, and from the word of each token row. -/

namespace Sys2Proof

/-- The rows' words differ, so the look-up finds each row under its own word. -/
theorem lookupTok_of_mem {w : BitVec 32} {i : Instr} (h : (w, i) ∈ tokRows) : lookupTok w tokRows = some i := by
  have hrows : ∀ r ∈ tokRows, lookupTok r.1 tokRows = some r.2 := by decide
  exact hrows _ h

/-- The encoder gives each row's operation the row's word. -/
theorem encode_of_mem_tokRows {w : BitVec 32} {i : Instr} (h : (w, i) ∈ tokRows) :
    encode i = .tok32 w ∧ i.wf = true := by
  have hrows : ∀ r ∈ tokRows, encode r.2 = .tok32 r.1 ∧ r.2.wf = true := by decide
  exact hrows _ h

variable {t : Token}

/-- The tokens of ROM are those whose word has a row. -/
theorem Token.mem_commandRom_iff : t ∈ Machine.commandRom ↔ ∃ i, (t.toWord, i) ∈ tokRows := by
  rw [← tokRows_tokens, List.mem_map]
  constructor
  · rintro ⟨⟨w, i⟩, h, rfl⟩
    exact ⟨i, by rwa [Token.toWord_ofWord]⟩
  · rintro ⟨i, h⟩
    exact ⟨_, h, t.ofWord_toWord⟩

theorem lookupTok_toWord_none (h : t ∉ Machine.commandRom) : lookupTok t.toWord tokRows = none := by
  cases hl : lookupTok t.toWord tokRows with
  | none => rfl
  | some i => exact absurd (Token.mem_commandRom_iff.2 ⟨i, lookupTok_some hl⟩) h

theorem Machine.isPageForm_iff {a b : Byte} :
    Machine.isPageForm a b = true ↔ a = Machine.letterM ∧ Machine.isDigit b = true := by
  simp [Machine.isPageForm]

/-- No entry of ROM has the motion-page form: the only one that begins with `M` has a space next (R181). -/
theorem Token.not_mem_commandRom_of_page (h : Machine.isPageForm t.t0 t.t1 = true) : t ∉ Machine.commandRom := by
  have hrom : ∀ e ∈ Machine.commandRom, Machine.isPageForm e.t0 e.t1 = false := by decide
  intro ht
  simp [hrom t ht] at h

/-! ### The three classes of R84 -/

theorem decodeTok_of_row {w : BitVec 32} {i : Instr} (h : (w, i) ∈ tokRows) : decodeTok w = i := by
  simp only [decodeTok, lookupTok_of_mem h]

theorem decodeTok_of_page (h : Machine.isPageForm t.t0 t.t1 = true) :
    decodeTok t.toWord = .motionPage t.t1 t.t2 t.t3 := by
  simp only [decodeTok, lookupTok_toWord_none (Token.not_mem_commandRom_of_page h), t.ofWord_toWord, h, if_true]

theorem decodeTok_of_unknown (h : t ∉ Machine.commandRom) (hp : Machine.isPageForm t.t0 t.t1 = false) :
    decodeTok t.toWord = .notFound t.t0 t.t1 t.t2 t.t3 := by
  simp [decodeTok, lookupTok_toWord_none h, t.ofWord_toWord, hp]

/-- A token's word is the own word of the class it decodes to. -/
theorem encode_decodeTok (t : Token) :
    encode (decodeTok t.toWord) = .tok32 t.toWord ∧ (decodeTok t.toWord).wf = true := by
  by_cases hrow : t ∈ Machine.commandRom
  · obtain ⟨i, hi⟩ := Token.mem_commandRom_iff.1 hrow
    rw [decodeTok_of_row hi]
    exact encode_of_mem_tokRows hi
  cases hp : Machine.isPageForm t.t0 t.t1 with
  | true =>
    obtain ⟨h0, h1⟩ := Machine.isPageForm_iff.1 hp
    rw [decodeTok_of_page hp]
    exact ⟨by rw [Token.toWord, h0]; rfl, h1⟩
  | false =>
    rw [decodeTok_of_unknown hrow hp]
    exact ⟨rfl, by simp [Instr.wf, hp, hrow]⟩

end Sys2Proof
end

section
/-! SUPPORT. Decoding and encoding, format by format (R71, R76, R77, R78), and the round trips. -/

namespace Sys2Proof

theorem decodeRx_of_ne {b : Byte} (h : b ≠ Machine.term) : decodeRx b = .rxData b := if_neg h

theorem decodeSeq_of_unused {p : BitVec 4} (h : 9 ≤ p.toNat) : decodeSeq p = .phaseUnused p := by
  have hall : ∀ p : BitVec 4, 9 ≤ p.toNat → decodeSeq p = .phaseUnused p := by decide
  exact hall p h

theorem decode_tok32 {ready : Bool} {w : BitVec 32} {i : Instr} (h : decodeTok w = i) :
    decode ready (.tok32 w) = .ok i := by rw [decode, h]

theorem decodeHop_reserved (ready : Bool) (low : BitVec 2) : decodeHop ready (1#1 ++ low) = .hopReserved low := by
  have hall : ∀ (ready : Bool) (low : BitVec 2), decodeHop ready (1#1 ++ low) = .hopReserved low := by decide
  exact hall ready low

/-- Settles O1: an operation without operands has one word; for the others the operand's condition selects the row. -/
theorem decodingAnEncodedInstructionGivesItBack : Obligations.DecodingAnEncodedInstructionGivesItBack := by
  intro i ready hwf hno hyes
  cases i with
  | rxData b => exact congrArg Except.ok (decodeRx_of_ne (by simpa [Instr.wf] using hwf))
  | pollNoframe => rw [hno rfl]; rfl
  | pollFrame => rw [hyes rfl]; rfl
  | hopReserved low => exact congrArg Except.ok (decodeHop_reserved ready low)
  | phaseUnused p => exact congrArg Except.ok (decodeSeq_of_unused (by simpa [Instr.wf] using hwf))
  | motionPage b c d =>
    exact decode_tok32 (decodeTok_of_page (t := ⟨Machine.letterM, b, c, d⟩) (Machine.isPageForm_iff.2 ⟨rfl, hwf⟩))
  | notFound a b c d =>
    obtain ⟨hpage, hrom⟩ : Machine.isPageForm a b = false ∧ ⟨a, b, c, d⟩ ∉ Machine.commandRom := by
      simpa [Instr.wf] using hwf
    exact decode_tok32 (decodeTok_of_unknown (t := ⟨a, b, c, d⟩) hrom hpage)
  | _ => rfl

/-! ### From the word -/

theorem encode_decodeRx (b : Byte) : encode (decodeRx b) = .rxb8 b ∧ (decodeRx b).wf = true := by
  by_cases h : b = Machine.term
  · subst h
    exact ⟨rfl, rfl⟩
  · rw [decodeRx_of_ne h]
    exact ⟨rfl, by simpa [Instr.wf] using h⟩

theorem encode_decodeHop (ready : Bool) (op : BitVec 3) :
    encode (decodeHop ready op) = .hop3 op ∧ (decodeHop ready op).wf = true := by
  have hall : ∀ (ready : Bool) (op : BitVec 3),
      encode (decodeHop ready op) = .hop3 op ∧ (decodeHop ready op).wf = true := by decide
  exact hall ready op

theorem encode_decodeSeq (p : BitVec 4) : encode (decodeSeq p) = .seq4 p ∧ (decodeSeq p).wf = true := by
  have hall : ∀ p : BitVec 4, encode (decodeSeq p) = .seq4 p ∧ (decodeSeq p).wf = true := by decide
  exact hall p

/-- The ring port, code by code (R78). -/
theorem decodeRbp_cases (en : BitVec 2) (d : Byte) :
    (en = 0b10#2 ∧ decodeRbp en d = .ok (.push d)) ∨ (en = 0b01#2 ∧ decodeRbp en d = .ok .pop) ∨
    (en = 0b00#2 ∧ decodeRbp en d = .ok .rbCount) ∨ (en = 0b11#2 ∧ decodeRbp en d = .error .bothEnables) := by
  have hcodes : ∀ en : BitVec 2, en = 0b10#2 ∨ en = 0b01#2 ∨ en = 0b00#2 ∨ en = 0b11#2 := by decide
  obtain rfl | rfl | rfl | rfl := hcodes en
  · exact .inl ⟨rfl, rfl⟩
  · exact .inr (.inl ⟨rfl, rfl⟩)
  · exact .inr (.inr (.inl ⟨rfl, rfl⟩))
  · exact .inr (.inr (.inr ⟨rfl, rfl⟩))

/-- Of the port's operations only PUSH has bits in `wr_data`. -/
theorem encode_of_decodeRbp {en : BitVec 2} {d : Byte} {i : Instr} (h : decodeRbp en d = .ok i)
    (hd : en ≠ 0b10#2 → d = 0#8) : encode i = .rbp en d ∧ i.wf = true := by
  rcases decodeRbp_cases en d with ⟨rfl, hi⟩ | ⟨rfl, hi⟩ | ⟨rfl, hi⟩ | ⟨rfl, hi⟩ <;> cases hi.symm.trans h
  · exact ⟨rfl, rfl⟩
  · exact ⟨by rw [hd (by decide)]; rfl, rfl⟩
  · exact ⟨by rw [hd (by decide)]; rfl, rfl⟩

/-- Settles O2: format by format, the word of the decoded operation is the word read. -/
theorem everyDecodedWordIsItsInstructionsOwnWord : Obligations.EveryDecodedWordIsItsInstructionsOwnWord := by
  intro ready w i h hdata
  have weaken {j : Instr} (hj : encode j = w ∧ j.wf = true) :
      encode j = w ∧ (j.wf = true ∨ ∃ a : BitVec 4, w = .strd true a ∧ a.toNat % 2 = 1) := ⟨hj.1, .inl hj.2⟩
  cases w with
  | rxb8 b => cases h; exact weaken (encode_decodeRx b)
  | hop3 op => cases h; exact weaken (encode_decodeHop ready op)
  | rbp en d => exact weaken (encode_of_decodeRbp h (hdata en d rfl))
  | seq4 p => cases h; exact weaken (encode_decodeSeq p)
  | tok32 t => cases h; exact weaken (by simpa only [Token.toWord_ofWord] using encode_decodeTok (Token.ofWord t))
  | rst line =>
    rw [decode] at h
    split at h <;> cases h
    next hline => exact weaken ⟨by rw [hline]; rfl, rfl⟩
  | strd wide a =>
    cases h
    refine ⟨rfl, ?_⟩
    cases wide with
    | false => exact .inl rfl
    | true =>
      obtain ha | ha := Nat.mod_two_eq_zero_or_one a.toNat
      · exact .inl (by simp [Instr.wf, ha])
      · exact .inr ⟨a, rfl, ha⟩

/-- Settles O3: only the ring port and the reset line have a word without an operation. -/
theorem onlyBothEnablesOrNoResetFailToDecode : Obligations.OnlyBothEnablesOrNoResetFailToDecode := by
  intro ready w
  cases w with
  | rbp en d =>
    rcases decodeRbp_cases en d with ⟨-, h⟩ | ⟨-, h⟩ | ⟨-, h⟩ | ⟨rfl, h⟩
    · exact .inl ⟨_, h⟩
    · exact .inl ⟨_, h⟩
    · exact .inl ⟨_, h⟩
    · exact .inr (.inl ⟨d, rfl, h⟩)
  | rst line =>
    have hline : line = 1#1 ∨ line = 0#1 := by revert line; decide
    obtain rfl | rfl := hline
    · exact .inl ⟨.reset, rfl⟩
    · exact .inr (.inr ⟨rfl, rfl⟩)
  | _ => exact .inl ⟨_, rfl⟩

/-- Settles O5: each word is evaluated. -/
theorem wordsFromTheSpecDecode : Obligations.WordsFromTheSpecDecode := by
  unfold Obligations.WordsFromTheSpecDecode
  decide

end Sys2Proof
end

section
/-! SUPPORT. Port words and their bytes (R74, R78, R85). -/

namespace Sys2Proof

/-- A byte is read as a field exactly when it is the field with zeros above. -/
theorem fieldOf_eq_ok_iff {n : Nat} (hn : n ≤ 8) {b : Byte} {v : BitVec n} :
    fieldOf n b = .ok v ↔ v.zeroExtend 8 = b := by
  unfold fieldOf
  constructor
  · intro h
    split at h <;> cases h
    next hb =>
      apply BitVec.eq_of_toNat_eq
      rw [BitVec.toNat_setWidth_of_le hn, BitVec.toNat_ofNat, Nat.mod_eq_of_lt hb]
  · rintro rfl
    rw [BitVec.toNat_setWidth_of_le hn, if_pos v.isLt, BitVec.ofNat_toNat, BitVec.setWidth_eq]

/-- The word `f` makes of a byte's field: the byte is that field with zeros above. -/
theorem fieldOf_map_eq_ok_iff {n : Nat} (hn : n ≤ 8) {b : Byte} {f : BitVec n → PortWord} {w : PortWord} :
    (fieldOf n b).map f = .ok w ↔ ∃ v : BitVec n, v.zeroExtend 8 = b ∧ f v = w := by
  simp only [← fieldOf_eq_ok_iff hn]
  cases fieldOf n b <;> simp [Except.map]

/-- The five bits of a status read: the width above the offset. -/
theorem strd_bits (v : BitVec 5) (wide : Bool) (a : BitVec 4) :
    (v.getLsbD 4 = wide ∧ v.extractLsb' 0 4 = a) ↔ v = BitVec.ofBool wide ++ a := by
  revert v wide a
  decide

/-- Bytes are read as a word exactly when they are its layout in its format. -/
theorem PortWord.ofBytes_eq_ok_iff {f : Format} {bytes : List Byte} {w : PortWord} :
    PortWord.ofBytes f bytes = .ok w ↔ w.format = f ∧ w.toBytes = bytes := by
  constructor
  · intro h
    unfold PortWord.ofBytes at h
    split at h
    case h_1 b => cases h; exact ⟨rfl, rfl⟩  -- RXB8
    case h_5 a b c d => cases h; exact ⟨rfl, congrArg Token.chars (Token.ofWord_append a b c d)⟩  -- TOK32
    case h_7 b =>  -- STRD
      obtain ⟨v, rfl, rfl⟩ := (fieldOf_map_eq_ok_iff (by decide)).1 h
      exact ⟨rfl, by rw [PortWord.toBytes, ← (strd_bits v _ _).1 ⟨rfl, rfl⟩]⟩
    case h_8 => cases h
    all_goals  -- the formats with one field
      obtain ⟨v, rfl, rfl⟩ := (fieldOf_map_eq_ok_iff (by decide)).1 h
      exact ⟨rfl, rfl⟩
  · rintro ⟨rfl, rfl⟩
    cases w with
    | rxb8 b => rfl
    | tok32 t => exact congrArg (Except.ok ∘ PortWord.tok32) (Token.toWord_ofWord t)
    | strd wide a =>
      obtain ⟨hwide, ha⟩ := (strd_bits _ wide a).2 rfl
      exact (fieldOf_map_eq_ok_iff (by decide)).2 ⟨_, rfl, by rw [hwide, ha]⟩
    | hop3 v | rbp v d | seq4 v | rst v => exact (fieldOf_map_eq_ok_iff (by decide)).2 ⟨v, rfl, rfl⟩

/-- Settles O4: both directions are the one correspondence. -/
theorem bytesAndPortWordsAgree : Obligations.BytesAndPortWordsAgree :=
  ⟨fun _ => PortWord.ofBytes_eq_ok_iff.2 ⟨rfl, rfl⟩, fun _ _ _ => PortWord.ofBytes_eq_ok_iff.1⟩

end Sys2Proof
end

section
/-! SUPPORT. CLASSIFY on the fixed ROM: the class of a token, and the token row that runs the same step (R84, R160). -/

namespace Sys2Proof.Machine

variable {s : State} {t : Token}

/-! ### The class of a token -/

theorem scanFrom_eq_none {i : Nat} {es : List Token} : scanFrom i t es = none ↔ t ∉ es := by
  induction es generalizing i with
  | nil => simp [scanFrom]
  | cons e es ih =>
    rw [scanFrom, List.mem_cons, not_or]
    split
    · next h => simp [h]
    · next h => rw [ih, and_iff_right (Ne.symm h)]

/-- The scan compares every entry of ROM but the last, `M` alone (R160, R181). -/
theorem scan_commandRom_eq_none (h : scan commandRom t = none) :
    t ∈ commandRom ↔ t = ⟨letterM, space, space, space⟩ := by
  have hrom : commandRom = commandRom.take (scanLast + 1) ++ [⟨letterM, space, space, space⟩] := by decide
  rw [hrom, List.mem_append, List.mem_singleton, or_iff_right (scanFrom_eq_none.1 h)]

theorem classOf_of_scan {rom : List Token} {n : Nat} (h : scan rom t = some n) : classOf rom t = .table n := by
  simp only [classOf, h]

theorem classOf_of_page {rom : List Token} (h : scan rom t = none) (hp : isPageForm t.t0 t.t1 = true) :
    classOf rom t = .page := by
  simp only [classOf, h, hp, if_true]

theorem classOf_of_unknown {rom : List Token} (h : scan rom t = none) (hp : isPageForm t.t0 t.t1 = false) :
    classOf rom t = .unknown := by
  simp [classOf, h, hp]

/-! ### CLASSIFY, class by class (R135) -/

section
variable (hp : s.phase = Phase.classify)
include hp

theorem exec_classify_table {n : Nat} (h : classOf s.rom s.tok = .table n) :
    exec .classify s = .next (s.classifyMatch n) := by
  simp only [exec, execClassify, State.atPhase, if_pos hp, h]

theorem exec_classify_page (h : classOf s.rom s.tok = .page) : exec .classify s = .next s.classifyPage := by
  simp only [exec, execClassify, State.atPhase, if_pos hp, h]

theorem exec_classify_unknown (h : classOf s.rom s.tok = .unknown) : exec .classify s = .next s.classifyUnknown := by
  simp only [exec, execClassify, State.atPhase, if_pos hp, h]

/-- A token class on its own token (R162 to R184). -/
theorem State.whenToken_here {r : Result} {here : Bool} (h : here = true) : s.whenToken here r = r := by
  rw [State.whenToken, State.atPhase, if_pos hp, if_pos h]

end

/-! ### The token rows -/

/-- The operation of table row `n` is the command of ordinal `n` (R161). -/
theorem exec_of_tokRows {n : Nat} (hn : n ≤ scanLast) {w : BitVec 32} {i : Instr} (h : tokRows[n]? = some (w, i)) :
    exec i s = s.runCommand w n := by
  have hn : n ≤ 18 := hn
  interval_cases n <;> cases h <;> rfl

/-- Entry `n` of ROM is the token of row `n`. -/
theorem tokRows_of_commandRom {n : Nat} (h : commandRom[n]? = some t) : ∃ i, tokRows[n]? = some (t.toWord, i) := by
  rw [← tokRows_tokens, List.getElem?_map, Option.map_eq_some_iff] at h
  obtain ⟨⟨w, i⟩, hrow, rfl⟩ := h
  exact ⟨i, by rw [hrow, Token.toWord_ofWord]⟩

/-- Settles O6: class by class, the row that the token's word decodes to takes the same step; `M` alone, the entry that the
scan leaves out, has a row of its own. -/
theorem classifyIsTheTokensOwnInstruction : Obligations.ClassifyIsTheTokensOwnInstruction := by
  intro s hrom hp
  cases hscan : scan s.rom s.tok with
  | some n =>
    obtain ⟨hn, hentry⟩ := scan_some hscan
    obtain ⟨i, hrow⟩ := tokRows_of_commandRom (hrom ▸ hentry)
    have hhere : (s.tok == Token.ofWord s.tok.toWord) = true := by rw [Token.ofWord_toWord, beq_self_eq_true]
    rw [exec_classify_table hp (classOf_of_scan hscan), decodeTok_of_row (List.mem_of_getElem? hrow),
      exec_of_tokRows hn hrow, State.runCommand, State.whenToken_here hp hhere]
  | none =>
    cases hpage : isPageForm s.tok.t0 s.tok.t1 with
    | true =>
      obtain ⟨h0, h1⟩ := isPageForm_iff.1 hpage
      have hhere : (s.tok == ⟨letterM, s.tok.t1, s.tok.t2, s.tok.t3⟩ && isDigit s.tok.t1) = true := by
        rw [← h0, h1, beq_self_eq_true, Bool.and_self]
      rw [exec_classify_page hp (classOf_of_page hscan hpage), decodeTok_of_page hpage, exec, execMotionPage,
        State.whenToken_here hp hhere]
    | false =>
      have hclass := classOf_of_unknown hscan hpage
      rw [exec_classify_unknown hp hclass]
      by_cases hm : s.tok = ⟨letterM, space, space, space⟩
      · have hrow : decodeTok s.tok.toWord = .mReserved := by rw [hm]; rfl
        rw [hrow, exec, execMReserved, State.whenToken_here hp (by rw [hm]; rfl)]
      · have hmem : s.tok ∉ commandRom := fun h => hm ((scan_commandRom_eq_none (hrom ▸ hscan)).1 h)
        have hhere : (s.tok == ⟨s.tok.t0, s.tok.t1, s.tok.t2, s.tok.t3⟩ && classOf s.rom s.tok == .unknown) = true := by
          rw [hclass, beq_self_eq_true, beq_self_eq_true, Bool.and_self]
        rw [decodeTok_of_unknown hmem hpage, exec, execNotFound, State.whenToken_here hp hhere]

end Sys2Proof.Machine
end

section
/-! SUPPORT. The decimal text of a number (R80) and the lines' lengths (R79). -/

namespace Sys2Proof.Machine

section
variable {d : Nat}

theorem digitChar_toNat (h : d ≤ 9) : (digitChar d).toNat = 0x30 + d := Nat.mod_eq_of_lt (by omega)

theorem isDigit_digitChar (h : d ≤ 9) : isDigit (digitChar d) = true := by
  rw [isDigit, digitChar_toNat h, decide_eq_true_eq]
  omega

theorem digitVal_digitChar (h : d ≤ 9) : digitVal (digitChar d) = d := by
  rw [digitVal, digitChar_toNat h]
  omega

/-- Only the digit 0 is written `0`. -/
theorem digitChar_ne_zero (h : d ≤ 9) (h0 : d ≠ 0) : digitChar d ≠ 0x30#8 := by
  intro heq
  have hval := congrArg BitVec.toNat heq
  rw [digitChar_toNat h] at hval
  change 0x30 + d = 0x30 at hval
  omega

end

/-- The text of a number is the characters of its digits, most significant first, and only 0 begins with the digit 0. -/
theorem dec_digits {v : Nat} (hv : v ≤ 999) :
    ∃ ds : List Nat, dec v = ds.map digitChar ∧ (∀ d ∈ ds, d ≤ 9) ∧ ds.foldl (fun p d => 10 * p + d) 0 = v ∧
      (ds = [0] ∨ ds.head? ≠ some 0) := by
  unfold dec
  split_ifs with h1 h2
  · exact ⟨[v], rfl, by simp; omega, by simp, by simp; omega⟩
  · exact ⟨[v / 10, v % 10], rfl, by simp; omega, by simp; omega, by simp; omega⟩
  · exact ⟨[v / 100, v / 10 % 10, v % 10], rfl, by simp; omega, by simp; omega, by simp; omega⟩

theorem dec_isDigit {v : Nat} (hv : v ≤ 999) : ∀ c ∈ dec v, isDigit c = true := by
  obtain ⟨ds, hdec, hle, -⟩ := dec_digits hv
  rw [hdec]
  simpa using fun d hd => isDigit_digitChar (hle d hd)

theorem dec_value {v : Nat} (hv : v ≤ 999) : ((dec v).map digitVal).foldl (fun p d => 10 * p + d) 0 = v := by
  obtain ⟨ds, hdec, hle, hval, -⟩ := dec_digits hv
  have hdigits : ∀ d ∈ ds, (digitVal ∘ digitChar) d = id d := fun d hd => digitVal_digitChar (hle d hd)
  rw [hdec, List.map_map, List.map_congr_left hdigits, List.map_id, hval]

theorem dec_no_leading_zero {v : Nat} (hv : v ≤ 999) : dec v = [0x30#8] ∨ (dec v).head? ≠ some 0x30#8 := by
  obtain ⟨ds, hdec, hle, -, hlead⟩ := dec_digits hv
  rw [hdec]
  refine hlead.imp (fun h0 => by rw [h0]; rfl) fun h0 => ?_
  cases ds with
  | nil => simp
  | cons d ds =>
    have hd : d ≠ 0 := by simpa using h0
    simpa using digitChar_ne_zero (hle d List.mem_cons_self) hd

/-- Settles O46: each line is its text around `dec`, whose length is that of its number. -/
theorem acknowledgmentLinesHaveTheirLengths : Obligations.AcknowledgmentLinesHaveTheirLengths := by
  refine ⟨fun t i hi => ?_, fun t p _ => ?_, unknownLine_length,
    fun v hv => ⟨dec_isDigit hv, dec_value hv, dec_no_leading_zero hv⟩⟩
  · rw [matchLine_length, dec_length]
    split_ifs <;> omega
  · rw [pageLine_length, dec_length]
    split_ifs <;> rfl

end Sys2Proof.Machine
end

section
/-! SUPPORT. The operations that change nothing, and the one that faults. -/

namespace Sys2Proof.Machine

theorem State.whenIdle_idle {s : State} {r : Result} (hp : s.phase = Phase.idle) (hh : s.readHeld = false) :
    s.whenIdle r = r := by
  simp [State.whenIdle, hp, hh]

/-- Settles O22: in IDLE the request is accepted, and has no effect. -/
theorem nopAndReservedCodesChangeNothing : Obligations.NopAndReservedCodesChangeNothing :=
  fun _ _ hp hh => ⟨State.whenIdle_idle hp hh, State.whenIdle_idle hp hh⟩

/-- Settles O39: the turn of the poll context at such a phase decodes to PHASE_UNUSED. -/
theorem unusedPhaseFaults : Obligations.UnusedPhaseFaults := by
  refine fun s p => ⟨rfl, fun hp hturn => ?_⟩
  have hidle : s.phase ≠ Phase.idle := fun h => by simp [h] at hp
  have hword : s.nextWord = some s.pollWord := by
    rcases hturn with ⟨hend, hquiet⟩ | ⟨rest, hnext⟩
    · exact State.nextWord_end hend hquiet
    · exact State.nextWord_turn hnext
  rw [step_of_decode hword (decode_pollWord fun h => hidle h.2), decodeSeq_of_unused hp]
  rfl

end Sys2Proof.Machine
end

section
/-! SUPPORT. The count of the ring buffer, and how it shows in STATUS and on the outputs (R38, R100, R103, R105, R106). -/

namespace Sys2Proof.Machine

variable {s : State}

theorem State.rbEmpty_iff : s.rbEmpty = true ↔ s.head = s.tail := decide_eq_true_iff

theorem State.rbFull_iff : s.rbFull = true ↔ s.count = s.cfg.n - 1 := decide_eq_true_iff

/-- `empty()` and `full()` at their places in STATUS (R38). -/
theorem State.statusFlags_getLsbD_empty : s.statusFlags.getLsbD 1 = s.rbEmpty := by
  rw [State.statusFlags, BitVec.getLsbD_append, BitVec.getLsbD_append]
  simp

theorem State.statusFlags_getLsbD_full : s.statusFlags.getLsbD 2 = s.rbFull := by
  rw [State.statusFlags, BitVec.getLsbD_append, BitVec.getLsbD_append, BitVec.getLsbD_append]
  simp

/-- An index of the ring fits in W bits (R6). -/
theorem Config.lt_two_pow_indexWidth {c : Config} {a : Nat} (h : a < c.n) : a < 2 ^ c.indexWidth :=
  calc a < c.n := h
    _ ≤ 2 ^ Nat.clog 2 c.n := Nat.le_pow_clog (by decide) _
    _ ≤ 2 ^ c.indexWidth := Nat.pow_le_pow_right (by decide) (le_max_right ..)

/-- Settles O12: the arithmetic of two indices below N, and the two flags that are read off it. -/
theorem countIsTheDistanceModuloN : Obligations.CountIsTheDistanceModuloN := by
  intro s _ hh ht
  have hlt : s.count < s.cfg.n := countOf_lt hh ht
  refine ⟨countOf_mod hh ht, by omega, countOf_zero hh, State.rbEmpty_iff, State.rbFull_iff, countOf_full hh ht,
    fun h2 => ?_, State.statusFlags_getLsbD_empty, State.statusFlags_getLsbD_full, Config.lt_two_pow_indexWidth hh,
    Config.lt_two_pow_indexWidth ht⟩
  rw [State.rbFull_iff, h2]

/-- Settles O13: RB_COUNT writes its output, and the two cases are those of the count's definition. -/
theorem rbCountOutputsTheCount : Obligations.RbCountOutputsTheCount :=
  fun _ => ⟨rfl, fun h => if_pos h, fun h => if_neg (Nat.not_le_of_lt h)⟩

/-- Settles O28: in IDLE the request is accepted, and a count below N fits in 16 bits. -/
theorem hostCountReturnsTheCount : Obligations.HostCountReturnsTheCount :=
  fun _ hp hh => ⟨State.whenIdle_idle hp hh, fun h => h.ofNat_toNat h.count_lt⟩

end Sys2Proof.Machine
end

section
/-! SUPPORT. PUSH: its answer, what it does to the storage, and consecutive PUSHes (R101, R107). -/

namespace Sys2Proof.Machine

variable {s t : State} {b : Byte} {ok : Bool}

/-- `wr_ok` says whether RB had a free slot (R101). -/
theorem State.pushByte_ok (h : s.pushByte b = .ok (ok, t)) : ok = decide (s.count ≠ s.cfg.n - 1) := by
  rcases State.pushByte_cases h with ⟨hc, rfl, -⟩ | ⟨hc, -, rfl, -⟩ <;> simp [hc]

theorem State.pushByte_out (h : s.pushByte b = .ok (ok, t)) :
    t.out = { s.out with wrOk := some (decide (s.count ≠ s.cfg.n - 1)) } := by
  rw [State.pushByte_frame h, State.pushByte_ok h]

/-- What a PUSH does to `tail` and the slots: nothing when RB is full, else the byte goes to the slot at `tail` (R101). -/
theorem State.pushByte_slots (h : s.pushByte b = .ok (ok, t)) :
    if s.count = s.cfg.n - 1 then t.tail = s.tail ∧ SameSlots s t
    else t.tail = (s.tail + 1) % s.cfg.n ∧ Memory.read t.rb s.tail = some b ∧
      ∀ a, a ≠ s.tail → Memory.read t.rb a = Memory.read s.rb a := by
  rcases State.pushByte_cases h with ⟨hc, -, rfl⟩ | ⟨hc, -, -, rfl⟩
  · rw [if_pos hc]
    exact ⟨rfl, fun _ => rfl⟩
  · rw [if_neg hc]
    exact ⟨rfl, Memory.read_write_same .., fun a ha => Memory.read_write_other _ _ _ _ ha⟩

/-- Settles O14: the two ways a PUSH completes, and the registers that it keeps. -/
theorem pushStoresAtTailOrDropsWhenFull : Obligations.PushStoresAtTailOrDropsWhenFull := by
  intro s b ht
  obtain ⟨ok, t, hp⟩ := s.pushByte_completes b ht
  obtain ⟨hhead, hready, htx, hshared, hpoll, hfixed⟩ := State.pushByte_keeps hp
  refine ⟨t, exec_push_next.2 ⟨ok, hp⟩, ?_, hshared, hpoll, hready, htx, hfixed⟩
  have hout := State.pushByte_out hp
  have hslots := State.pushByte_slots hp
  by_cases hc : s.count = s.cfg.n - 1
  · rw [if_pos hc] at hslots ⊢
    obtain ⟨htail, hsame⟩ := hslots
    exact ⟨by simpa [hc] using hout, hhead, htail, hsame⟩
  · rw [if_neg hc] at hslots ⊢
    exact ⟨by simpa [hc] using hout, hhead, hslots⟩

/-! ### Consecutive PUSHes -/

theorem pushAll_cons {bs : List Byte} (h : s.pushByte b = .ok (ok, t)) :
    pushAll (b :: bs) s = (pushAll bs t).map fun r => (some ok :: r.1, r.2) := by
  have hout : t.out.wrOk = some ok := by rw [State.pushByte_frame h]
  simp only [pushAll, exec_push_next.2 ⟨ok, h⟩, hout]

/-- With `k` free slots the first `k` PUSHes are accepted and the later ones refused. -/
theorem RingOk.pushAll_eq (hs : RingOk s) {k : Nat} (hk : s.count + k = s.cfg.n - 1) (bs : List Byte) :
    ∃ t, pushAll bs s =
        some (List.replicate (min bs.length k) (some true) ++ List.replicate (bs.length - k) (some false), t) ∧
      t.contents = s.contents ++ bs.take k ∧ t.count = s.count + min bs.length k := by
  induction bs generalizing s k with
  | nil => exact ⟨s, by simp [pushAll], by simp, by simp⟩
  | cons b bs ih =>
    obtain ⟨ok, u, hp⟩ := s.pushByte_completes b hs.tail_lt
    obtain ⟨hu, hcontents, hcount⟩ := hs.push hp
    obtain ⟨-, -, -, -, -, hcfg, -⟩ := State.pushByte_keeps hp
    have hok := State.pushByte_ok hp
    cases k with
    | zero =>
      have hfull : s.count = s.cfg.n - 1 := hk
      rw [if_pos hfull] at hcontents hcount
      obtain ⟨t, ht, htcontents, htcount⟩ := ih hu (k := 0) (by rw [hcount, hcfg, hk])
      refine ⟨t, ?_, by simpa [hcontents] using htcontents, by simpa [hcount] using htcount⟩
      rw [pushAll_cons hp, ht, hok]
      simp [hfull, List.replicate_succ]
    | succ k =>
      have hfree : s.count ≠ s.cfg.n - 1 := by omega
      rw [if_neg hfree] at hcontents hcount
      obtain ⟨t, ht, htcontents, htcount⟩ := ih hu (k := k) (by rw [hcount, hcfg]; omega)
      refine ⟨t, ?_, by simp [htcontents, hcontents], by rw [htcount, hcount, List.length_cons]; omega⟩
      rw [pushAll_cons hp, ht, hok]
      simp [hfree, Nat.add_min_add_right, List.replicate_succ]

/-- Settles O17: a legal state with count `c` has `N - 1 - c` free slots. -/
theorem exactlyTheFreeSlotsAcceptPushes : Obligations.ExactlyTheFreeSlotsAcceptPushes := by
  intro s bs hs
  have hlt := hs.count_lt
  obtain ⟨t, hrun, hcontents, hcount⟩ := hs.ringOk.pushAll_eq (k := s.cfg.n - 1 - s.count) (by omega) bs
  exact ⟨t, hrun, hcontents, by omega⟩

end Sys2Proof.Machine
end

section
/-! SUPPORT. POP, and READ_WAIT made of it (R102, R104). -/

namespace Sys2Proof.Machine

variable {s t : State} {b v : Byte}

/-- RB is empty when the indices are equal (R103). -/
theorem RingOk.count_eq_zero_iff (h : RingOk s) : s.count = 0 ↔ s.head = s.tail := countOf_zero h.head_lt

/-- A POP completes: RB is empty, or its oldest slot was written. -/
theorem RingOk.popByte_completes (h : RingOk s) : ∃ v t, s.popByte = .ok (v, t) := by
  refine State.popByte_completes s ?_
  by_cases he : s.head = s.tail
  · exact .inl he
  · have hcount : s.count ≠ 0 := mt h.count_eq_zero_iff.1 he
    have hslot := h.occupied 0 (Nat.pos_of_ne_zero hcount)
    rw [Nat.add_zero, Nat.mod_eq_of_lt h.head_lt] at hslot
    exact .inr ⟨h.head_lt, Option.isSome_iff_exists.1 hslot⟩

/-- Settles O15: the two ways a POP completes, and the registers that it keeps. -/
theorem popTakesTheByteAtHead : Obligations.PopTakesTheByteAtHead := by
  intro s hs
  obtain ⟨v, t, hp⟩ := hs.ringOk.popByte_completes
  obtain ⟨htail, hrb, hready, htx, hshared, hpoll, hfixed⟩ := State.popByte_keeps hp
  refine ⟨t, exec_pop_next.2 ⟨v, hp⟩, ?_, htail, fun a => by rw [hrb], hshared, hpoll, hready, htx, hfixed⟩
  rcases State.popByte_cases hp with ⟨he, -, rfl⟩ | ⟨hne, -, hread, rfl⟩
  · rw [if_pos he]
    exact ⟨rfl, rfl⟩
  · rw [if_neg hne]
    exact ⟨v, hread, rfl, rfl⟩

/-- A POP from a ring that holds a byte takes the oldest one and advances `head`. -/
theorem RingOk.popByte_of_contents {bs : List Byte} (h : RingOk s) (hc : s.contents = b :: bs) :
    ∃ t, s.popByte = .ok (b, t) ∧ t.contents = bs ∧ t.head = (s.head + 1) % s.cfg.n ∧
      t.out = { s.out with rdData := some b, rdEmpty := some false } := by
  obtain ⟨v, t, hp⟩ := h.popByte_completes
  obtain ⟨-, hcontents, hv, -, hempty⟩ := h.pop hp
  obtain rfl : v = b := by rw [hv, hc]; rfl
  rcases State.popByte_cases hp with ⟨he, -, -⟩ | ⟨-, -, -, rfl⟩
  · exact absurd (hempty.1 he) (by simp [hc])
  · exact ⟨_, hp, by rw [hcontents, hc]; rfl, rfl, rfl⟩

/-! ### READ_WAIT -/

section
variable (hp : s.phase = Phase.idle)
include hp

theorem exec_readWait_empty (hc : s.count = 0) : exec .readWait s = .next (s.setHeld true) := by
  simp only [exec, execReadWait, if_pos hp, if_pos hc]

theorem exec_readWait_pop (hc : s.count ≠ 0) (h : s.popByte = .ok (v, t)) :
    exec .readWait s = .next ((t.setHeld false).setOut { t.out with hostRdata := some v }) := by
  simp only [exec, execReadWait, if_pos hp, if_neg hc, h]

end

/-- Settles O25: READ_WAIT is the POP of the oldest byte, after which the hold is over and the byte is on the output. -/
theorem readWaitReturnsTheOldestByte : Obligations.ReadWaitReturnsTheOldestByte := by
  intro s b bs hs hp hc
  have hcount : s.count ≠ 0 := by rw [← hs.ringOk.contents_length, hc]; simp
  obtain ⟨u, hu, hcontents, hhead, hout⟩ := hs.ringOk.popByte_of_contents hc
  obtain ⟨htail, hrb, hready, htx, hshared, ⟨hphase, -, hline⟩, hfixed⟩ := State.popByte_keeps hu
  refine ⟨_, exec_readWait_pop hp hcount hu, ?_, hcontents, hhead, htail, fun a => congrArg (Memory.read · a) hrb, rfl,
    hphase, hline, hshared, hready, htx, hfixed⟩
  rw [State.setOut_out, hout]

/-- Settles O26: with the indices equal the count is 0. -/
theorem readWaitHoldsWhileTheRingIsEmpty : Obligations.ReadWaitHoldsWhileTheRingIsEmpty := by
  intro s hp he
  have hcount : s.count = 0 := by simp [State.count, he]
  exact exec_readWait_empty hp hcount

end Sys2Proof.Machine
end

section
/-! SUPPORT. An RX event in the ring, and the READ_WAIT that it lifts (R104, R121, R122, R207). -/

namespace Sys2Proof.Machine

variable {s t : State}

/-- The byte an RX event pushes: the sentinel for a terminator, any other byte as it is (R121, R122). -/
def pushedByte (b : Byte) : Byte := if b = term then sent else b

/-- Taking an RX event completes when `tail` is a slot's index. -/
theorem State.takeRx_completes (h : s.tail < s.cfg.n) (b : Byte) (echo : List Byte) (drop : GhostEvent) :
    ∃ t, s.takeRx b echo drop = .ok t := by
  obtain ⟨ok, u, hu⟩ := s.pushByte_completes b h
  exact ⟨(u.emit echo).logIf (!ok) drop, by simp only [State.takeRx, hu]⟩

/-- It extends the occupied slots when RB has a free slot, and touches nothing of the poll context (R206). -/
theorem RingOk.takeRx {b : Byte} {echo : List Byte} {drop : GhostEvent} (hs : RingOk s)
    (h : s.takeRx b echo drop = .ok t) :
    SamePoll s t ∧ t.contents = if s.count = s.cfg.n - 1 then s.contents else s.contents ++ [b] := by
  obtain ⟨ok, u, hu, rfl⟩ := State.takeRx_cases h
  obtain ⟨-, hcontents, -⟩ := hs.push hu
  refine ⟨by simp [SamePoll, SameLine, State.pushByte_keeps hu], ?_⟩
  rw [← hcontents]
  exact State.contents_congr (by simp) (by simp) (by simp) (by simp)

/-- RX_TERM completes exactly as the event's taking does, after the flag is raised (R121). -/
theorem exec_rxTerm_next :
    exec .rxTerm s = .next t ↔ s.raiseReady.takeRx sent [term, lineFeed] .dropSent = .ok t := by
  simp only [exec, execRxTerm]
  cases s.raiseReady.takeRx sent [term, lineFeed] .dropSent <;> simp

/-- RX_DATA completes exactly as the event's taking does (R122). -/
theorem exec_rxData_next {b : Byte} (hb : b ≠ term) :
    exec (.rxData b) s = .next t ↔ s.takeRx b [b] .dropData = .ok t := by
  simp only [exec, execRxData, if_neg hb]
  cases s.takeRx b [b] .dropData <;> simp

/-- The operation that an RX byte decodes to, in the ring and beside it. -/
theorem RingOk.exec_decodeRx (h : RingOk s) (b : Byte) :
    ∃ t, exec (decodeRx b) s = .next t ∧ SamePoll s t ∧ SameFixed s t ∧
      t.contents = if s.count = s.cfg.n - 1 then s.contents else s.contents ++ [pushedByte b] := by
  by_cases hb : b = term
  · have hraise : RingOk s.raiseReady := h.congr rfl rfl rfl rfl
    obtain ⟨t, ht⟩ := State.takeRx_completes hraise.tail_lt sent [term, lineFeed] .dropSent
    obtain ⟨hpoll, hcontents⟩ := hraise.takeRx ht
    have hexec : exec (decodeRx b) s = .next t := by rw [hb]; exact exec_rxTerm_next.2 ht
    exact ⟨t, hexec, hpoll, (exec_effect hexec).sameFixed, by rw [pushedByte, if_pos hb]; exact hcontents⟩
  · obtain ⟨t, ht⟩ := State.takeRx_completes h.tail_lt b [b] .dropData
    obtain ⟨hpoll, hcontents⟩ := h.takeRx ht
    have hexec : exec (decodeRx b) s = .next t := by rw [decodeRx_of_ne hb]; exact (exec_rxData_next hb).2 ht
    exact ⟨t, hexec, hpoll, (exec_effect hexec).sameFixed, by rw [pushedByte, if_neg hb]; exact hcontents⟩

/-- Settles O27: the push of the event leaves its byte alone in RB, and the turn is the re-test that pops it. -/
theorem heldReadWaitReturnsThePushedByte : Obligations.HeldReadWaitReturnsThePushedByte := by
  intro s b rest hs hheld hempty hsched
  have hfree : s.count ≠ s.cfg.n - 1 := by
    obtain ⟨hn, -⟩ := hs.cfg_wf
    rw [← hs.ringOk.contents_length, hempty, List.length_nil]
    omega
  -- the RX event
  obtain ⟨u, hu, ⟨huphase, huheld, -⟩, ⟨-, -, husched, -⟩, hucontents⟩ := hs.consume.ringOk.exec_decodeRx b
  have hrx : step s = .next u := by rw [step_of_decode (State.nextWord_rx hsched) rfl, hu]
  rw [State.consume_phase, hs.held_idle hheld] at huphase
  rw [State.consume_readHeld, hheld] at huheld
  rw [State.consume_cons hsched (by simp)] at husched
  simp only [State.consume_count, State.consume_cfg, State.consume_contents, if_neg hfree, hempty, List.nil_append]
    at hucontents
  -- the poll context's turn
  have hulegal : Legal u := (exec_effect hu).legal hs.consume
  obtain ⟨t, ht, hout, hcontents, -, -, -, htheld, htphase, -, -, -, -, -, -, htsched, -⟩ :=
    readWaitReturnsTheOldestByte u.consume (pushedByte b) [] hulegal.consume (by rw [State.consume_phase, huphase])
      (by rw [State.consume_contents, hucontents])
  have hturn : step u = .next t := by
    rw [step_of_decode (State.nextWord_turn husched) (decode_pollWord_held huheld huphase), ht]
  rw [State.consume_phase, huphase] at htphase
  rw [State.consume_cons husched (by simp)] at htsched
  exact ⟨t, by rw [run_succ hrx, run_succ hturn]; rfl, by rw [hout]; rfl, htheld, hcontents, htsched, htphase⟩

end Sys2Proof.Machine
end

section
/-! SUPPORT. The conservation law along one operation and along a step (R108). -/

namespace Sys2Proof.Machine

variable {i : Instr} {s t : State}

/-- Only the two counts and the occupied count matter. -/
theorem Conserved.congr (h : Conserved s) (ha : t.ghost.accepted = s.ghost.accepted)
    (hp : t.ghost.popped = s.ghost.popped) (hc : t.count = s.count) : Conserved t := by
  rw [Conserved, ha, hp, hc]
  exact h

theorem State.count_congr (hh : t.head = s.head) (ht : t.tail = s.tail) (hc : t.cfg = s.cfg) : t.count = s.count := by
  rw [State.count_eq, State.count_eq, hh, ht, hc]

/-- An accepted PUSH raises both sides by one, a refused one neither. -/
theorem Conserved.push {b : Byte} {ok : Bool} (h : Conserved s) (hr : RingOk s) (hp : s.pushByte b = .ok (ok, t)) :
    Conserved t := by
  obtain ⟨-, -, hcount⟩ := hr.push hp
  rcases State.pushByte_cases hp with ⟨-, -, rfl⟩ | ⟨hfree, -, -, rfl⟩
  · exact h
  · rw [if_neg hfree] at hcount
    rw [Conserved, hcount]
    show s.ghost.accepted + 1 = s.ghost.popped + (s.count + 1)
    rw [h, Nat.add_assoc]

/-- A POP that gives a byte moves one from the occupied slots to the popped ones. -/
theorem Conserved.pop {v : Byte} (h : Conserved s) (hr : RingOk s) (hp : s.popByte = .ok (v, t)) : Conserved t := by
  obtain ⟨-, -, -, hcount, -⟩ := hr.pop hp
  rcases State.popByte_cases hp with ⟨-, -, rfl⟩ | ⟨hne, -, -, rfl⟩
  · exact h
  · have hpos : s.count ≠ 0 := mt hr.count_eq_zero_iff.1 hne
    rw [Conserved, hcount]
    show s.ghost.accepted = s.ghost.popped + 1 + (s.count - 1)
    rw [h]
    omega

theorem Effect.conserved (h : Effect i s t) (hr : RingOk s) (hc : Conserved s) : Conserved t := by
  cases h with
  | rxTerm _ ok u hp =>
    have hraise : RingOk s.raiseReady := hr.congr rfl rfl rfl rfl
    have hu : Conserved u := Conserved.push (s := s.raiseReady) hc hraise hp
    exact hu.congr (by simp) (by simp) (State.count_congr (by simp) (by simp) (by simp))
  | rxData _ b ok u _ hp =>
    exact (hc.push hr hp).congr (by simp) (by simp) (State.count_congr (by simp) (by simp) (by simp))
  | push _ b ok _ hp => exact hc.push hr hp
  | pop _ v _ hp => exact hc.pop hr hp
  | readWait _ _ _ _ _ hp | fetchEnd _ _ _ _ _ _ _ hp | fetchChar _ _ _ _ _ _ _ hp | drain _ _ _ _ hp =>
    exact (hc.pop hr hp).congr rfl rfl rfl
  | unknown =>
    rw [State.classifyUnknown]
    exact hc.congr (by simp) (by simp) (State.count_congr (by simp) (by simp) (by simp))
  | clear =>
    exact hc.congr (by simp [State.dropReady]) (by simp [State.dropReady])
      (State.count_congr (by simp) (by simp) (by simp))
  | reset => exact rfl
  | _ => exact hc

/-- Settles O18: after RESET the ring is empty and the counts are 0, and the operation of a step keeps the law. -/
theorem countIsAcceptedPushesLessPops : Obligations.CountIsAcceptedPushesLessPops := by
  refine ⟨fun c => rfl, fun s t hs hc h => ?_⟩
  have hconsume : Conserved s.consume := hc.congr (by simp) (by simp) (by simp)
  rcases step_cases h with ⟨-, -, -, -, rfl⟩ | ⟨w, i, -, -, -, he⟩
  · exact hconsume
  · exact he.conserved hs.consume.ringOk hconsume

end Sys2Proof.Machine
end

section
/-! SUPPORT. What an RX event does to every register, and the echo of a stretch of RX events (R121 to R125, R206). -/

namespace Sys2Proof.Machine

variable {s t u : State} {b : Byte}

/-! ### One RX event -/

/-- The taking of an RX event is the PUSH of its byte in every register but TX, which grows by the echo whether or not the
byte was dropped (R123). -/
theorem State.takeRx_registers {echo : List Byte} {drop : GhostEvent} (h : s.takeRx b echo drop = .ok t) :
    t.frameReady = s.frameReady ∧ t.tx = s.tx ++ echo ∧
    (if s.count = s.cfg.n - 1 then t.tail = s.tail ∧ SameSlots s t
      else t.tail = (s.tail + 1) % s.cfg.n ∧ Memory.read t.rb s.tail = some b ∧
        ∀ a, a ≠ s.tail → Memory.read t.rb a = Memory.read s.rb a) ∧
    t.out = { s.out with wrOk := some (decide (s.count ≠ s.cfg.n - 1)) } ∧
    t.head = s.head ∧ SameShared s t ∧ SamePoll s t ∧ SameFixed s t := by
  obtain ⟨ok, u, hu, rfl⟩ := State.takeRx_cases h
  obtain ⟨hhead, hready, htx, hshared, hpoll, hfixed⟩ := State.pushByte_keeps hu
  have hslots := State.pushByte_slots hu
  have hout := State.pushByte_out hu
  exact ⟨by simpa using hready, by simp [htx], by simpa [SameSlots] using hslots, by simpa using hout, by simpa using hhead,
    by simpa [SameShared] using hshared, by simpa [SamePoll, SameLine] using hpoll, by simpa [SameFixed] using hfixed⟩

/-- Settles O19: the event is taken with the sentinel as its byte, after the flag is raised. -/
theorem rxTermSetsReadyPushesSentinelAndEchoes : Obligations.RxTermSetsReadyPushesSentinelAndEchoes := by
  intro s htail
  obtain ⟨t, ht⟩ := State.takeRx_completes (s := s.raiseReady) htail sent [term, lineFeed] .dropSent
  exact ⟨t, exec_rxTerm_next.2 ht, State.takeRx_registers ht⟩

/-- Settles O20: the event is taken with the byte itself, and `frame_ready` is left as it is. -/
theorem rxDataPushesRawByteAndEchoes : Obligations.RxDataPushesRawByteAndEchoes := by
  intro s b htail hb
  obtain ⟨t, ht⟩ := State.takeRx_completes htail b [b] .dropData
  exact ⟨t, (exec_rxData_next hb).2 ht, State.takeRx_registers ht⟩

/-! ### A stretch of RX events -/

theorem SameShared.trans (h : SameShared s u) (h' : SameShared u t) : SameShared s t := by
  obtain ⟨hcc, hpc, hcm, hpm⟩ := h
  rw [SameShared, ← hcc, ← hpc, ← hcm, ← hpm]
  exact h'

theorem SamePoll.trans (h : SamePoll s u) (h' : SamePoll u t) : SamePoll s t := by
  obtain ⟨hphase, hheld, htok, hkind, hbuf, hlen, hi⟩ := h
  rw [SamePoll, SameLine, ← hphase, ← hheld, ← htok, ← hkind, ← hbuf, ← hlen, ← hi]
  exact h'

/-- From `s` to `t` the bytes `bs` were received: TX grew by their echo, the flag is up if a terminator was among them, and
`head`, the shared registers and the poll context stay (R123, R125). -/
structure Received (bs : List Byte) (s t : State) : Prop where
  tx : t.tx = s.tx ++ bs.flatMap echoOf
  ready : t.frameReady = (s.frameReady || bs.contains term)
  head : t.head = s.head
  shared : SameShared s t
  poll : SamePoll s t

theorem Received.nil (s : State) : Received [] s s := by
  constructor <;> simp [SameShared, SamePoll, SameLine]

/-- One byte received, then others. -/
theorem Received.cons {bs : List Byte} (hb : Received [b] s u) (hbs : Received bs u t) : Received (b :: bs) s t where
  tx := by simp [hbs.tx, hb.tx]
  ready := by rw [hbs.ready, hb.ready, Bool.or_assoc, ← List.contains_append, List.singleton_append]
  head := hbs.head.trans hb.head
  shared := hb.shared.trans hbs.shared
  poll := hb.poll.trans hbs.poll

/-- The operation of an RX event receives its byte, be it the terminator or another. -/
theorem received_of_exec_decodeRx (htail : s.tail < s.cfg.n) (b : Byte) :
    ∃ t, exec (decodeRx b) s = .next t ∧ Received [b] s t ∧ SameFixed s t := by
  by_cases hb : b = term
  · obtain ⟨t, ht, hready, htx, -, -, hhead, hshared, hpoll, hfixed⟩ := rxTermSetsReadyPushesSentinelAndEchoes s htail
    subst hb
    exact ⟨t, ht, ⟨htx, by simp [hready], hhead, hshared, hpoll⟩, hfixed⟩
  · obtain ⟨t, ht, hready, htx, -, -, hhead, hshared, hpoll, hfixed⟩ := rxDataPushesRawByteAndEchoes s b htail hb
    have hne : term ≠ b := Ne.symm hb
    exact ⟨t, by rw [decodeRx_of_ne hb, ht], ⟨by simp [htx, echoOf, hb], by simp [hready, hne], hhead, hshared, hpoll⟩,
      hfixed⟩

/-- The step on an RX event of the trace receives its byte. -/
theorem Legal.step_rx {rest : List Stimulus} (h : Legal s) (hsched : s.sched = .rx b :: rest) :
    ∃ t, step s = .next t ∧ Legal t ∧ t.sched = rest ∧ Received [b] s t := by
  obtain ⟨t, ht, ⟨htx, hready, hhead, hshared, hpoll⟩, -, -, htsched, -⟩ :=
    received_of_exec_decodeRx (s := { s with sched := rest }) h.tail_lt b
  have hstep : step s = .next t := by rw [step_of_item hsched (by simp) (State.nextWord_rx hsched) rfl, ht]
  exact ⟨t, hstep, everyStepKeepsTheLegalState s t h hstep, htsched, htx, hready, hhead, hshared, hpoll⟩

/-- A run over a stretch of RX events receives their bytes. -/
theorem Legal.run_rx {bs : List Byte} {rest : List Stimulus} (h : Legal s)
    (hsched : s.sched = bs.map Stimulus.rx ++ rest) :
    ∃ t, Host.Core.run core bs.length s = .next t ∧ t.sched = rest ∧ Received bs s t := by
  induction bs generalizing s with
  | nil => exact ⟨s, rfl, hsched, Received.nil s⟩
  | cons b bs ih =>
    obtain ⟨u, hstep, hu, husched, hb⟩ := h.step_rx hsched
    obtain ⟨t, hrun, htsched, hbs⟩ := ih hu husched
    exact ⟨t, by rw [List.length_cons, run_succ hstep, hrun], htsched, hb.cons hbs⟩

/-- Settles O21: by induction on the received bytes, each event echoing its own, whether or not RB took it. -/
theorem echoIsTheReceivedStreamWithCrLf : Obligations.EchoIsTheReceivedStreamWithCrLf := by
  intro s bs rest hs hsched
  obtain ⟨t, hrun, htsched, htx, hready, hhead, hshared, hpoll⟩ := hs.run_rx hsched
  exact ⟨t, hrun, htx, htsched, hhead, hshared, hpoll, hready⟩

end Sys2Proof.Machine
end

section
/-! SUPPORT. The HOST's POLL, and its requests while a dispatch cycle runs (R77, R130, R131). -/

namespace Sys2Proof.Machine

variable {s : State} {r : Result}

theorem State.whenIdle_busy (hp : s.phase ≠ Phase.idle) : s.whenIdle r = .refused .hostBusy := if_neg hp

/-- Settles O23: with the flag down the code is POLL_NOFRAME, which IDLE accepts and which writes nothing. -/
theorem pollWithNoFrameChangesNothing : Obligations.PollWithNoFrameChangesNothing := by
  intro s hp hh hr
  refine ⟨by rw [hr]; rfl, ?_⟩
  rw [exec, execPollNoframe, State.whenIdle_idle hp hh, hr]
  rfl

/-- With the flag up a POLL in IDLE enters FETCH0 (R131). -/
theorem exec_pollFrame (hp : s.phase = Phase.idle) (hh : s.readHeld = false) (hr : s.frameReady = true) :
    exec .pollFrame s = .next ((s.setPhase Phase.fetch0).markTerm false) := by
  rw [exec, execPollFrame, State.whenIdle_idle hp hh, if_pos hr]

/-- Settles O24: with the flag up the code is POLL_FRAME, which writes `phase` and the ghost mark. -/
theorem pollWithFrameEntersFetch0 : Obligations.PollWithFrameEntersFetch0 :=
  fun _ hp hh hr => ⟨by rw [hr]; rfl, exec_pollFrame hp hh hr⟩

/-- Settles O29: READ_WAIT tests `phase` itself, every other request by `whenIdle`. -/
theorem hostIsRefusedDuringADispatchCycle : Obligations.HostIsRefusedDuringADispatchCycle := by
  intro i hi s hp
  simp only [hostOps, List.mem_cons, List.not_mem_nil, or_false] at hi
  have hread : exec .readWait s = .refused .hostBusy := if_neg hp
  have hother {r : Result} : s.whenIdle r = .refused .hostBusy := State.whenIdle_busy hp
  rcases hi with rfl | rfl | rfl | rfl | rfl | rfl | rfl | rfl | rfl
  exacts [hother, hother, hother, hread, hother, hother, hother, hother, hother]

end Sys2Proof.Machine
end

section
/-! SUPPORT. The CONSUMER's micro-steps that pop: FETCH0..FETCH3 and DRAIN (R133, R134). -/

namespace Sys2Proof.Machine

variable {s t u : State}

theorem State.atPhase_here {p : BitVec 4} {r : Result} (hp : s.phase = p) : s.atPhase p r = r := if_pos hp

/-- A POP's answer, what is left in RB, `head` and the outputs, whether RB is empty or not (R102). -/
theorem RingOk.popByte_answer (h : RingOk s) :
    ∃ u, s.popByte = .ok (s.contents.headD 0xFF#8, u) ∧ u.contents = s.contents.tail ∧
      u.head = (if s.head = s.tail then s.head else (s.head + 1) % s.cfg.n) ∧
      u.out = { s.out with rdData := some (s.contents.headD 0xFF#8), rdEmpty := some (decide (s.head = s.tail)) } := by
  obtain ⟨v, u, hu⟩ := h.popByte_completes
  obtain ⟨-, hcontents, rfl, -⟩ := h.pop hu
  refine ⟨u, hu, hcontents, ?_, by rw [State.popByte_frame hu]⟩
  rcases State.popByte_cases hu with ⟨he, -, rfl⟩ | ⟨hne, -, -, rfl⟩
  · rw [if_pos he]
    rfl
  · rw [if_neg hne]
    rfl

/-! ### FETCH -/

/-- No byte but the sentinel is folded to it (R72). -/
theorem fold_eq_sent_iff {b : Byte} : fold b = sent ↔ b = sent := by
  unfold fold sent
  split <;> bv_omega

theorem Token.chars_put {k : Nat} (h : k ≤ 3) (x : Token) (c : Byte) : (x.put k c).chars = x.chars.set k c := by
  interval_cases k <;> rfl

/-- FETCHk at its own phase, `k + 1`, fetches a character (R133). -/
theorem exec_fetch {k : Nat} {i : Instr} (hi : (k, i) ∈ fetchOps) (hp : s.phase.toNat = k + 1) :
    k ≤ 3 ∧ exec i s = s.fetchChar k := by
  have hphase : s.phase = BitVec.ofNat 4 (k + 1) := by rw [← hp, BitVec.ofNat_toNat, BitVec.setWidth_eq]
  simp only [fetchOps, List.mem_cons, Prod.mk.injEq, List.not_mem_nil, or_false] at hi
  rcases hi with ⟨rfl, rfl⟩ | ⟨rfl, rfl⟩ | ⟨rfl, rfl⟩ | ⟨rfl, rfl⟩ <;>
    exact ⟨by decide, State.atPhase_here hphase⟩

theorem State.fetchChar_store {k : Nat} {v : Byte} (hu : s.popByte = .ok (v, u)) (hv : fold v ≠ sent) :
    s.fetchChar k = .next ((u.setTok (u.tok.put k (fold v))).setPhase (Phase.afterFetch k)) := by
  simp only [State.fetchChar, hu, if_neg hv]

theorem State.fetchChar_end {k : Nat} {v : Byte} (hu : s.popByte = .ok (v, u)) (hv : fold v = sent) :
    s.fetchChar k = .next ((u.setTok (u.tok.padFrom k)).setPhase Phase.drain) := by
  simp only [State.fetchChar, hu, if_pos hv]

/-- Settles O30: the POP takes a byte, since an empty RB would give the sentinel, and its folded value goes to `tok[k]`. -/
theorem fetchStoresTheFoldedCharacter : Obligations.FetchStoresTheFoldedCharacter := by
  rintro ⟨k, i⟩ hi s hs hp hv
  obtain ⟨hk, hexec⟩ := exec_fetch hi hp
  obtain ⟨u, hu, hcontents, hhead, hout⟩ := hs.ringOk.popByte_answer
  obtain ⟨htail, hrb, hready, htx, hshared, ⟨-, hheld, htok, hkind, hbuf, hlen, hack⟩, hfixed⟩ := State.popByte_keeps hu
  have hne : s.head ≠ s.tail := by
    obtain ⟨-, -, -, -, hempty⟩ := hs.ringOk.pop hu
    intro he
    rw [hempty.1 he] at hv
    exact hv rfl
  rw [if_neg hne] at hhead
  have hlast : (Phase.afterFetch k).toNat = if k = 3 then 5 else k + 2 := by
    rw [afterFetch_toNat hk]
    split <;> omega
  have hfirst : some (s.contents.headD 0xFF#8) = s.contents.head? := by
    cases hc : s.contents with
    | nil => exact absurd (by rw [hc]; rfl) hv
    | cons b bs => rfl
  refine ⟨_, hexec.trans (State.fetchChar_store hu hv), ?_, hlast, hcontents, hhead, htail, fun a => by simp [hrb],
    hshared, hready, hkind, hbuf, hlen, hack, hheld, htx, hfixed, ?_⟩
  · rw [State.setPhase_tok, State.setTok_tok, Token.chars_put hk, htok]
  · rw [State.setPhase_out, State.setTok_out, hout, hfirst, decide_eq_false hne]

/-- Settles O31: a stored 0xFF and the answer of an empty RB are one value, and the rest of the token is padded. -/
theorem fetchPadsTheTokenAtTheSentinel : Obligations.FetchPadsTheTokenAtTheSentinel := by
  rintro ⟨k, i⟩ hi s hs hp hv
  obtain ⟨hk, hexec⟩ := exec_fetch hi hp
  obtain ⟨u, hu, hcontents, hhead, hout⟩ := hs.ringOk.popByte_answer
  obtain ⟨htail, hrb, hready, htx, hshared, ⟨-, hheld, htok, hkind, hbuf, hlen, hack⟩, hfixed⟩ := State.popByte_keeps hu
  have hsent : s.contents.headD 0xFF#8 = 0xFF#8 := fold_eq_sent_iff.1 hv
  refine ⟨_, hexec.trans (State.fetchChar_end hu hv), ?_, rfl, hcontents, hhead, htail, fun a => by simp [hrb],
    hshared, hready, hkind, hbuf, hlen, hack, hheld, htx, hfixed, ?_⟩
  · rw [State.setPhase_tok, State.setTok_tok, Token.chars_padFrom hk, htok]
    rfl
  · rw [State.setPhase_out, State.setTok_out, hout, hsent]

/-! ### DRAIN -/

theorem exec_drain {v : Byte} (hp : s.phase = Phase.drain) (hu : s.popByte = .ok (v, u)) :
    exec .drain s = .next (u.setPhase Phase.classify) := by
  rw [exec, execDrain, State.atPhase_here hp, hu]

/-- Settles O32: DRAIN is a POP and the next phase. -/
theorem drainDiscardsOneByte : Obligations.DrainDiscardsOneByte := by
  intro s hs hp
  obtain ⟨u, hu, hcontents, hhead, hout⟩ := hs.ringOk.popByte_answer
  obtain ⟨htail, hrb, hready, htx, hshared, ⟨-, hheld, hline⟩, hfixed⟩ := State.popByte_keeps hu
  exact ⟨_, exec_drain hp hu, rfl, hcontents, hhead, htail, fun a => by simp [hrb], hshared, hready, hline, hheld, htx,
    hfixed, hout⟩

end Sys2Proof.Machine
end

section
/-! SUPPORT. The CONSUMER's micro-steps that end a cycle: CLEAR and ACK (R136, R137). -/

namespace Sys2Proof.Machine

variable {s : State}

theorem State.dropReady_events :
    s.dropReady.ghost.events = s.ghost.events ++ if s.ghost.termSincePoll then [.lostReady] else [] := by
  cases h : s.ghost.termSincePoll <;> simp [State.dropReady, State.logIf, State.setReady, h]

theorem exec_clear (hp : s.phase = Phase.clear) : exec .clear s = .next (s.dropReady.setPhase Phase.ack) :=
  State.atPhase_here hp

/-- Settles O36: CLEAR writes the flag, `phase` and the ghost history. -/
theorem clearEndsTheFrame : Obligations.ClearEndsTheFrame := by
  intro s hp
  refine ⟨_, exec_clear hp, rfl, rfl, ?_, ?_, ?_, by simp, by simp, by simp, (Effect.clear s hp).sameFixed,
    State.dropReady_events⟩
  · simp [SameRing, SameSlots]
  · simp [SameShared]
  · simp [SameLine]

/-- ACK at a position inside `ack_buf` emits the byte there (R137). -/
theorem exec_ack {b : Byte} (hp : s.phase = Phase.ack) (hk : s.kind ≠ Kind.unused) (hb : s.ackBuf[s.ackI.toNat]? = some b) :
    exec .ack s = if s.ackI.toNat + 1 = s.ackLen.toNat then
        .next (((s.emit [b]).setAckPos 0#5 0#5).setPhase Phase.idle)
      else .next ((s.emit [b]).setAckPos s.ackLen (s.ackI + 1#5)) := by
  simp only [exec, execAck, State.atPhase_here hp, if_neg hk, hb]

/-- In ACK the position is inside the line, and the line inside `ack_buf` (R33). -/
theorem Legal.ack_byte (h : Legal s) (hp : s.phase = Phase.ack) :
    s.ackI.toNat < s.ackLen.toNat ∧ ∃ b, s.ackBuf[s.ackI.toNat]? = some b := by
  obtain ⟨hi, -⟩ := (ackPosLegal_ack hp).1 h.ack_pos
  have hlen : s.ackBuf.length = 31 := h.ack_buf_length
  exact ⟨hi, _, List.getElem?_eq_getElem (by omega)⟩

/-- Settles O37: in a legal state the position is inside `ack_buf` and `kind` is used, so ACK emits, and it is at the last
byte or not. -/
theorem ackEmitsOneByteOfTheLine : Obligations.AckEmitsOneByteOfTheLine := by
  intro s hs hp
  obtain ⟨hi, b, hb⟩ := hs.ack_byte hp
  have hexec := exec_ack hp (hs.kind_used (.inr hp)) hb
  by_cases hl : s.ackI.toNat + 1 = s.ackLen.toNat
  · rw [if_pos hl] at hexec
    refine ⟨_, b, hexec, hb, rfl, ?_, ⟨rfl, rfl, fun _ => rfl⟩, ⟨rfl, rfl, rfl, rfl⟩, rfl, rfl, rfl, rfl, rfl, rfl,
      rfl, rfl, rfl, rfl, rfl⟩
    rw [if_pos hl]
    exact ⟨rfl, rfl, rfl⟩
  · rw [if_neg hl] at hexec
    refine ⟨_, b, hexec, hb, rfl, ?_, ⟨rfl, rfl, fun _ => rfl⟩, ⟨rfl, rfl, rfl, rfl⟩, rfl, rfl, rfl, rfl, rfl, rfl,
      rfl, rfl, rfl, rfl, rfl⟩
    rw [if_neg hl]
    refine ⟨hp, ?_, rfl⟩
    rw [State.setAckPos_ackI]
    bv_omega

end Sys2Proof.Machine
end

section
/-! SUPPORT. The outcomes of CLASSIFY, register by register, as CLASSIFY and as the token rows (R135, R161, R182, R184). -/

namespace Sys2Proof.Machine

variable {s t : State}

/-! ### What CLASSIFY writes -/

/-- The shared registers after CLASSIFY of a token of class `c`: the command shift of a table match, the page shift, or
NOT_FOUND_ORD (R161, R182, R184). -/
def SharedWritten (s t : State) (tok : Token) : TokenClass → Prop
  | .table i => t.curCmd.toNat = i ∧ t.prevCmd = s.curCmd ∧ t.curMp = s.curMp ∧ t.prevMp = s.prevMp
  | .page => t.curCmd = 19#8 ∧ t.prevCmd = s.prevCmd ∧ t.curMp.toNat = pageNumber tok ∧ t.prevMp = s.curMp
  | .unknown => t.curCmd = s.cfg.notFoundOrd ∧ t.prevCmd = s.prevCmd ∧ t.curMp = s.curMp ∧ t.prevMp = s.prevMp

/-- A line that fits in `ack_buf` is composed at its start, and the bytes after it stay (R135). -/
theorem State.finishClassify_lineComposed {u : State} (hbuf : u.ackBuf = s.ackBuf) (kind : BitVec 2) {line : List Byte}
    (hline : line.length ≤ 31) : LineComposed s (u.finishClassify kind line) kind line := by
  refine ⟨rfl, ?_, rfl, rfl, ?_, ?_⟩
  · rw [State.finishClassify_ackLen, BitVec.toNat_ofNat]
    omega
  · simp [overwrite]
  · simp [overwrite, hbuf]

/-- Only the line's registers and `phase` matter. -/
theorem LineComposed.congr {u : State} {kind : BitVec 2} {line : List Byte} (h : LineComposed s u kind line)
    (hu : SamePoll u t) : LineComposed s t kind line := by
  obtain ⟨hphase, -, -, hkind, hbuf, hlen, hi⟩ := hu
  rw [LineComposed, hphase, hkind, hbuf, hlen, hi]
  exact h

/-- A table match of ordinal `i` (R161). -/
theorem State.classifyMatch_spec {i : Nat} (hi : i ≤ scanLast) :
    SharedWritten s (s.classifyMatch i) s.tok (.table i) ∧
    LineComposed s (s.classifyMatch i) Kind.isMatch (matchLine s.tok i) ∧ SameBesideClassify s (s.classifyMatch i) := by
  obtain ⟨-, h31⟩ := matchLine_fits s.tok i
  have hi : i ≤ 18 := hi
  refine ⟨⟨?_, rfl, rfl, rfl⟩, State.finishClassify_lineComposed rfl _ h31,
    ⟨rfl, rfl, fun _ => rfl⟩, rfl, rfl, rfl, rfl, rfl, rfl, rfl, rfl, rfl, rfl⟩
  show (BitVec.ofNat 8 i).toNat = i
  rw [BitVec.toNat_ofNat]
  omega

/-- The motion-page form (R182): a page number fits in `cur_mp`. -/
theorem State.classifyPage_spec :
    SharedWritten s s.classifyPage s.tok .page ∧
    LineComposed s s.classifyPage Kind.page (pageLine s.tok (pageNumber s.tok)) ∧ SameBesideClassify s s.classifyPage := by
  obtain ⟨-, h31⟩ := pageLine_fits s.tok (pageNumber s.tok)
  have hle := pageNumber_le s.tok
  refine ⟨⟨rfl, rfl, ?_, rfl⟩, State.finishClassify_lineComposed rfl _ h31,
    ⟨rfl, rfl, fun _ => rfl⟩, rfl, rfl, rfl, rfl, rfl, rfl, rfl, rfl, rfl, rfl⟩
  show (BitVec.ofNat 10 (pageNumber s.tok)).toNat = pageNumber s.tok
  rw [BitVec.toNat_ofNat]
  omega

/-- Not found (R184): the ghost events are beside the line. -/
theorem State.classifyUnknown_spec :
    SharedWritten s s.classifyUnknown s.tok .unknown ∧
    LineComposed s s.classifyUnknown Kind.unknown (unknownLine s.tok) ∧ SameBesideClassify s s.classifyUnknown := by
  obtain ⟨-, h31⟩ := unknownLine_fits s.tok
  have hline := State.finishClassify_lineComposed (s := s) (u := s.setShared s.cfg.notFoundOrd s.prevCmd s.curMp s.prevMp)
    rfl Kind.unknown h31
  refine ⟨?_, hline.congr ?_, ?_⟩
  · simp [SharedWritten, State.classifyUnknown]
  · simp [SamePoll, SameLine, State.classifyUnknown]
  · simp [SameBesideClassify, SameRing, SameSlots, SameFixed, State.classifyUnknown]

/-! ### The class of a token on the fixed ROM -/

/-- The entries that the scan compares differ, so each is found at its place (R160). -/
theorem scan_commandRom {i : Nat} {tok : Token} (hi : i ≤ scanLast) (h : commandRom[i]? = some tok) :
    scan commandRom tok = some i := by
  have hrom : ∀ j ≤ scanLast, commandRom[j]?.bind (scan commandRom) = some j := by decide
  simpa [h] using hrom i hi

theorem isPageForm_eq_false {a b : Byte} (h : ¬(a = 0x4D#8 ∧ isDigit b = true)) : isPageForm a b = false :=
  Bool.eq_false_iff.2 fun hp => h (isPageForm_iff.1 hp)

/-- Settles O33: the scan finds the entry at its place. -/
theorem classifyOfATableTokenShiftsTheCommand : Obligations.ClassifyOfATableTokenShiftsTheCommand := by
  intro s i hrom hp hi htok
  have hclass : classOf s.rom s.tok = .table i := classOf_of_scan (hrom ▸ scan_commandRom hi (hrom ▸ htok))
  obtain ⟨⟨hcur, hprev, hmp, hpmp⟩, hline, hbeside⟩ := State.classifyMatch_spec (s := s) hi
  exact ⟨_, exec_classify_table hp hclass, hprev, hcur, hmp, hpmp, hline, hbeside⟩

/-- Settles O34: no entry of ROM has the motion-page form, so the scan misses. -/
theorem classifyOfAPageTokenShiftsThePage : Obligations.ClassifyOfAPageTokenShiftsThePage := by
  intro s hrom hp h0 h1
  have hpage : isPageForm s.tok.t0 s.tok.t1 = true := isPageForm_iff.2 ⟨h0, h1⟩
  have hmiss : scan s.rom s.tok = none := by
    refine scan_miss fun i _ hentry => Token.not_mem_commandRom_of_page hpage ?_
    exact List.mem_of_getElem? (hrom ▸ hentry)
  obtain ⟨⟨hcur, hprev, hmp, hpmp⟩, hline, hbeside⟩ := State.classifyPage_spec (s := s)
  exact ⟨_, exec_classify_page hp (classOf_of_page hmiss hpage), hcur, hprev, hpmp, hmp, hline, hbeside⟩

/-- Settles O35: the scan misses, and the token has not the motion-page form. -/
theorem classifyOfAnyOtherTokenIsNotFound : Obligations.ClassifyOfAnyOtherTokenIsNotFound := by
  intro s _ hp hmiss hform
  have hclass := classOf_of_unknown (scan_miss hmiss) (isPageForm_eq_false hform)
  obtain ⟨⟨hcur, hprev, hmp, hpmp⟩, hline, hbeside⟩ := State.classifyUnknown_spec (s := s)
  exact ⟨_, exec_classify_unknown hp hclass, hcur, hprev, hmp, hpmp, hline, hbeside⟩

/-! ### The token rows -/

theorem Token.chars_inj {x y : Token} : x.chars = y.chars ↔ x = y := by
  cases x
  cases y
  simp [Token.chars]

/-- The token rows of the table in its two forms: by operation with the token's characters, and by the token's word. -/
theorem tokRows_of_commandRows {r : Instr × List Byte × Nat} (h : r ∈ commandRows) :
    r.2.2 ≤ scanLast ∧ ∃ w, tokRows[r.2.2]? = some (w, r.1) ∧ (Token.ofWord w).chars = r.2.1 := by
  have hrows : ∀ r ∈ commandRows, r.2.2 ≤ scanLast ∧
      (tokRows[r.2.2]?.map fun x => (x.2, (Token.ofWord x.1).chars)) = some (r.1, r.2.1) := by decide
  obtain ⟨hle, hrow⟩ := hrows r h
  obtain ⟨⟨w, i⟩, hentry, heq⟩ := Option.map_eq_some_iff.1 hrow
  obtain ⟨rfl, hchars⟩ := Prod.mk.inj heq
  exact ⟨hle, w, hentry, hchars⟩

theorem State.whenToken_elsewhere {r : Result} {here : Bool} (hp : s.phase = Phase.classify) (h : here = false) :
    s.whenToken here r = .refused .notEnabled := by
  rw [State.whenToken, State.atPhase_here hp, h]
  rfl

/-- Settles O41: each row's operation is the command of its ordinal, which asks for the row's token. -/
theorem eachTableCommandRunsOnItsOwnToken : Obligations.EachTableCommandRunsOnItsOwnToken := by
  rintro ⟨i, chars, n⟩ hr s hp
  obtain ⟨hn, w, hrow, rfl⟩ := tokRows_of_commandRows hr
  have hexec : exec i s = s.runCommand w n := exec_of_tokRows hn hrow
  simp only [Token.chars_inj, ne_eq]
  constructor
  · intro htok
    obtain ⟨⟨hcur, hprev, hmp, hpmp⟩, hline, hbeside⟩ := State.classifyMatch_spec (s := s) hn
    rw [← htok]
    exact ⟨_, hexec.trans (State.whenToken_here hp (beq_iff_eq.2 htok)), hprev, hcur, hmp, hpmp, hline, hbeside⟩
  · intro htok
    exact hexec.trans (State.whenToken_elsewhere hp (beq_false_of_ne htok))

/-- Settles O42: the row asks for `M` alone, and is the not-found outcome. -/
theorem letterMAloneIsNotFound : Obligations.LetterMAloneIsNotFound := by
  intro s hp htok
  obtain ⟨⟨hcur, hprev, hmp, hpmp⟩, hline, hbeside⟩ := State.classifyUnknown_spec (s := s)
  rw [htok] at hline
  exact ⟨_, State.whenToken_here hp (by rw [htok]; rfl), hcur, hprev, hmp, hpmp, hline, hbeside⟩

/-- Settles O43: the row asks for its own token and a digit, and is the motion-page outcome. -/
theorem motionPageRunsOnMAndADigit : Obligations.MotionPageRunsOnMAndADigit := by
  intro s b c d hp htok hb
  have hhere : (s.tok == ⟨letterM, b, c, d⟩ && isDigit b) = true := Bool.and_eq_true_iff.2 ⟨beq_iff_eq.2 htok, hb⟩
  obtain ⟨⟨hcur, hprev, hmp, hpmp⟩, hline, hbeside⟩ := State.classifyPage_spec (s := s)
  rw [htok] at hmp hline
  exact ⟨_, State.whenToken_here hp hhere, hcur, hprev, hpmp, hmp, hline, hbeside⟩

/-- Settles O44: a token that the row admits is in no entry of ROM and has not the motion-page form, so its class is the
row's. -/
theorem notFoundRunsOnEveryOtherToken : Obligations.NotFoundRunsOnEveryOtherToken := by
  intro s a b c d hp htok hrom hwf
  simp only [Instr.wf, Bool.and_eq_true, Bool.not_eq_true', List.contains_eq_mem, decide_eq_false_iff_not] at hwf
  obtain ⟨hform, hmem⟩ := hwf
  have hmiss : scan s.rom s.tok = none := by
    rw [htok, hrom]
    exact scan_miss fun i _ hentry => hmem (List.mem_of_getElem? hentry)
  have hclass : classOf s.rom s.tok = .unknown := classOf_of_unknown hmiss (by rw [htok, hform])
  have hhere : (s.tok == ⟨a, b, c, d⟩ && classOf s.rom s.tok == .unknown) = true :=
    Bool.and_eq_true_iff.2 ⟨beq_iff_eq.2 htok, beq_iff_eq.2 hclass⟩
  obtain ⟨⟨hcur, hprev, hmp, hpmp⟩, hline, hbeside⟩ := State.classifyUnknown_spec (s := s)
  rw [htok] at hline
  exact ⟨_, State.whenToken_here hp hhere, hcur, hprev, hmp, hpmp, hline, hbeside⟩

end Sys2Proof.Machine
end

section
/-! SUPPORT. The changes of `phase` along a step (R138). -/

namespace Sys2Proof.Machine

variable {i : Instr} {s t : State} {w : PortWord}

/-- No item of a trace puts bits on the ring buffer's port (R55, R78). -/
theorem State.nextWord_ne_rbp (en : BitVec 2) (d : Byte) : s.nextWord ≠ some (.rbp en d) := by
  have hpoll : s.pollWord ≠ .rbp en d := by
    unfold State.pollWord
    split <;> simp
  unfold State.nextWord
  split <;> simp [hpoll]

/-- The next port bits are the own word of the operation that they decode to. -/
theorem encode_of_nextWord (hw : s.nextWord = some w) (hi : decode s.frameReady w = .ok i) :
    s.nextWord = some (encode i) := by
  have hrbp : ∀ en d, w = .rbp en d → en ≠ 0b10#2 → d = 0#8 := by
    rintro en d rfl
    exact absurd hw (State.nextWord_ne_rbp en d)
  rw [hw, (everyDecodedWordIsItsInstructionsOwnWord s.frameReady w i hi hrbp).1]

/-- The operations that change `phase`, RESET apart, each with its condition (R138). -/
theorem Effect.phase_cases (h : Effect i s t) (hr : RingOk s) :
    t.phase = s.phase ∨ (i = .reset ∧ t.phase = Phase.idle) ∨
    (s.phase = Phase.idle ∧ s.frameReady = true ∧ t.phase = Phase.fetch0 ∧ i = .pollFrame) ∨
    (1 ≤ s.phase.toNat ∧ s.phase.toNat ≤ 3 ∧ t.phase = Phase.drain ∧ fold (s.contents.headD 0xFF#8) = 0xFF#8) ∨
    (s.phase = Phase.fetch3 ∧ t.phase = Phase.drain) ∨
    (1 ≤ s.phase.toNat ∧ s.phase.toNat ≤ 3 ∧ t.phase.toNat = s.phase.toNat + 1 ∧
      fold (s.contents.headD 0xFF#8) ≠ 0xFF#8) ∨
    (s.phase = Phase.drain ∧ t.phase = Phase.classify) ∨ (s.phase = Phase.classify ∧ t.phase = Phase.clear) ∨
    (s.phase = Phase.clear ∧ t.phase = Phase.ack) ∨
    (s.phase = Phase.ack ∧ t.phase = Phase.idle ∧ s.ackI.toNat + 1 = s.ackLen.toNat) := by
  cases h with
  | rxTerm _ _ _ hp | rxData _ _ _ _ _ hp | push _ _ _ _ hp => simp [State.pushByte_keeps hp]
  | pop _ _ _ hp | readWait _ _ _ _ _ hp => simp [State.popByte_keeps hp]
  | poll _ hp _ hready => simp [hp, hready]
  | fetchEnd _ k _ v u hk hp hu hv =>
    have hle := fetch_index_le hk
    obtain ⟨-, -, rfl, -⟩ := hr.pop hu
    by_cases h3 : k = 3
    · have hfetch3 : s.phase = Phase.fetch3 := BitVec.eq_of_toNat_eq (by rw [hp, h3]; rfl)
      simp [hfetch3]
    · have hv : fold (s.contents.headD 0xFF#8) = 0xFF#8 := hv
      simp only [State.setPhase_phase, hv, and_true]
      omega
  | fetchChar _ k _ v u hk hp hu hv =>
    have hle := fetch_index_le hk
    have hnext := afterFetch_toNat hle
    obtain ⟨-, -, rfl, -⟩ := hr.pop hu
    by_cases h3 : k = 3
    · have hfetch3 : s.phase = Phase.fetch3 := BitVec.eq_of_toNat_eq (by rw [hp, h3]; rfl)
      simp [hfetch3, h3, Phase.afterFetch]
    · have hv : fold (s.contents.headD 0xFF#8) ≠ 0xFF#8 := hv
      simp only [State.setPhase_phase, ne_eq, hv, not_false_eq_true, and_true]
      omega
  | drain _ _ _ hp => simp [hp]
  | table _ _ _ _ hp => simp [hp, State.classifyMatch]
  | page _ _ _ hp => simp [hp, State.classifyPage]
  | unknown _ _ _ hp => simp [hp, State.classifyUnknown]
  | clear _ hp => simp [hp]
  | ackLast _ _ hp _ hl => simp [hp, hl]
  | reset => simp
  | _ => simp

/-- Settles O40: operation by operation, and the port bits of a step are the operation's own word. -/
theorem phaseFollowsTheTransitionTable : Obligations.PhaseFollowsTheTransitionTable := by
  intro s t hs h hne
  rcases step_cases h with ⟨-, -, -, -, rfl⟩ | ⟨w, i, hw, hi, -, he⟩
  · exact absurd s.consume_phase hne
  have hword := encode_of_nextWord hw hi
  have hcases := he.phase_cases hs.consume.ringOk
  simp only [State.consume_phase, State.consume_frameReady, State.consume_contents, State.consume_ackI,
    State.consume_ackLen, hne, false_or] at hcases
  refine hcases.imp ?_ (Or.imp_left ?_)
  · rintro ⟨rfl, hp⟩
    exact ⟨hword, hp⟩
  · rintro ⟨hidle, hready, hp, rfl⟩
    exact ⟨hidle, hready, hp, hword⟩

end Sys2Proof.Machine
end

section
/-! SUPPORT. A turn of the poll context in a dispatch cycle: it completes, and how it brings the cycle nearer to its end
(R132, R142). -/

namespace Sys2Proof.Machine

variable {s t : State}

/-! ### CLASSIFY, whatever the class -/

/-- In CLASSIFY every token has its outcome: its class's registers and its class's line (R84, R135). -/
theorem exec_classify (hp : s.phase = Phase.classify) :
    ∃ t, exec .classify s = .next t ∧ SharedWritten s t s.tok (classOf s.rom s.tok) ∧
      (∃ kind, LineComposed s t kind (lineOf s.rom s.tok)) ∧ SameBesideClassify s t := by
  cases hscan : scan s.rom s.tok with
  | some n =>
    have hclass := classOf_of_scan hscan
    obtain ⟨hshared, hline, hbeside⟩ := State.classifyMatch_spec (s := s) (scan_some hscan).1
    simp only [lineOf, hclass]
    exact ⟨_, exec_classify_table hp hclass, hshared, ⟨_, hline⟩, hbeside⟩
  | none =>
    cases hpage : isPageForm s.tok.t0 s.tok.t1 with
    | true =>
      have hclass := classOf_of_page hscan hpage
      obtain ⟨hshared, hline, hbeside⟩ := State.classifyPage_spec (s := s)
      simp only [lineOf, hclass]
      exact ⟨_, exec_classify_page hp hclass, hshared, ⟨_, hline⟩, hbeside⟩
    | false =>
      have hclass := classOf_of_unknown hscan hpage
      obtain ⟨hshared, hline, hbeside⟩ := State.classifyUnknown_spec (s := s)
      simp only [lineOf, hclass]
      exact ⟨_, exec_classify_unknown hp hclass, hshared, ⟨_, hline⟩, hbeside⟩

/-- The occupied slots only depend on the indices and on what the slots read. -/
theorem SameRing.contents (h : SameRing s t) (hc : t.cfg = s.cfg) : t.contents = s.contents := by
  obtain ⟨hhead, htail, hslots⟩ := h
  have hread : Memory.read t.rb = Memory.read s.rb := funext hslots
  rw [State.contents, State.contents, State.count_congr hhead htail hc, hread, hhead, hc]

/-! ### A turn from FETCH0 to CLEAR -/

/-- What a turn from FETCH0 to CLEAR does: a later phase, ACK at the latest, one POP up to DRAIN and none after it, and
`frame_ready` down on entering ACK (R132 to R136). -/
structure Advanced (s t : State) : Prop where
  fixed : SameFixed s t
  later : s.phase.toNat < t.phase.toNat
  upto_ack : t.phase.toNat ≤ 8
  contents : t.contents = s.contents.drop (if s.phase.toNat ≤ 5 then 1 else 0)
  ready : t.phase.toNat = 8 → t.frameReady = false

/-- Phase `k + 1` names FETCHk (R76). -/
theorem decodeSeq_mem_fetchOps {k : Nat} (hk : k ≤ 3) (hp : s.phase.toNat = k + 1) : (k, decodeSeq s.phase) ∈ fetchOps := by
  have hops : ∀ k ≤ 3, (k, decodeSeq (BitVec.ofNat 4 (k + 1))) ∈ fetchOps := by decide
  have hphase : s.phase = BitVec.ofNat 4 (k + 1) := by rw [← hp, BitVec.ofNat_toNat, BitVec.setWidth_eq]
  exact hphase ▸ hops k hk

theorem Legal.fetch_advances (h : Legal s) {k : Nat} (hk : k ≤ 3) (hp : s.phase.toNat = k + 1) :
    ∃ t, exec (decodeSeq s.phase) s = .next t ∧ Advanced s t := by
  have hi := decodeSeq_mem_fetchOps hk hp
  have hpop : (if s.phase.toNat ≤ 5 then 1 else 0) = 1 := if_pos (by omega)
  by_cases hv : fold (s.contents.headD 0xFF#8) = 0xFF#8
  · obtain ⟨t, ht, -, hphase, hcontents, -⟩ := fetchPadsTheTokenAtTheSentinel _ hi s h hp hv
    have hdrain : t.phase.toNat = 5 := by rw [hphase]; rfl
    exact ⟨t, ht, (exec_effect ht).sameFixed, by omega, by omega, by rw [hpop, hcontents, List.drop_one],
      fun he => by omega⟩
  · obtain ⟨t, ht, -, hphase, hcontents, -⟩ := fetchStoresTheFoldedCharacter _ hi s h hp hv
    have hnext : t.phase.toNat = k + 2 := by
      rw [hphase]
      simp only
      split <;> omega
    exact ⟨t, ht, (exec_effect ht).sameFixed, by omega, by omega, by rw [hpop, hcontents, List.drop_one],
      fun he => by omega⟩

/-- From FETCH0 to CLEAR the turn completes and advances. -/
theorem Legal.advances (h : Legal s) (h1 : 1 ≤ s.phase.toNat) (h7 : s.phase.toNat ≤ 7) :
    ∃ t, exec (decodeSeq s.phase) s = .next t ∧ Advanced s t := by
  rcases (by omega : s.phase.toNat ≤ 4 ∨ s.phase.toNat = 5 ∨ s.phase.toNat = 6 ∨ s.phase.toNat = 7) with
    h4 | h5 | h6 | h7
  · exact h.fetch_advances (k := s.phase.toNat - 1) (by omega) (by omega)
  · have hp : s.phase = Phase.drain := BitVec.eq_of_toNat_eq h5
    obtain ⟨t, ht, hphase, hcontents, -⟩ := drainDiscardsOneByte s h hp
    rw [hp]
    exact ⟨t, ht, (exec_effect ht).sameFixed, by simp [hp, hphase], by simp [hphase], by simp [hp, hcontents],
      by simp [hphase]⟩
  · have hp : s.phase = Phase.classify := BitVec.eq_of_toNat_eq h6
    obtain ⟨t, ht, -, ⟨-, -, -, -, hphase, -⟩, hring, -⟩ := exec_classify hp
    have hfixed := (exec_effect ht).sameFixed
    rw [hp]
    exact ⟨t, ht, hfixed, by simp [hp, hphase], by simp [hphase], by simp [hp, hring.contents hfixed.1], by simp [hphase]⟩
  · have hp : s.phase = Phase.clear := BitVec.eq_of_toNat_eq h7
    obtain ⟨t, ht, hready, hphase, hring, -⟩ := clearEndsTheFrame s hp
    have hfixed := (exec_effect ht).sameFixed
    rw [hp]
    exact ⟨t, ht, hfixed, by simp [hp, hphase], by simp [hphase], by simp [hp, hring.contents hfixed.1], fun _ => hready⟩

/-! ### The turns that are left -/

theorem turnsLeft_idle (hp : s.phase = Phase.idle) : turnsLeft s = 0 := if_pos hp

theorem turnsLeft_ack (hp : s.phase = Phase.ack) : turnsLeft s = s.ackLen.toNat - s.ackI.toNat := by
  have hidle : s.phase ≠ Phase.idle := by rw [hp]; decide
  rw [turnsLeft, if_neg hidle, if_pos hp]

theorem turnsLeft_early (h1 : 1 ≤ s.phase.toNat) (h7 : s.phase.toNat ≤ 7) : turnsLeft s = 39 - s.phase.toNat := by
  have hidle : s.phase ≠ Phase.idle := fun h => by simp [h] at h1
  have hack : s.phase ≠ Phase.ack := fun h => by simp [h] at h7
  rw [turnsLeft, if_neg hidle, if_neg hack]

theorem SamePoll.turnsLeft (h : SamePoll s t) : turnsLeft t = turnsLeft s := by
  obtain ⟨hphase, -, -, -, -, hlen, hi⟩ := h
  simp only [Machine.turnsLeft, hphase, hlen, hi]

/-- A phase of a cycle is one from FETCH0 to CLEAR, or ACK. -/
theorem Legal.cycle_phase (h : Legal s) (hp : s.phase ≠ Phase.idle) :
    (1 ≤ s.phase.toNat ∧ s.phase.toNat ≤ 7) ∨ s.phase = Phase.ack := by
  have h8 := h.phase_named
  have h0 : s.phase.toNat ≠ 0 := fun he => hp (BitVec.eq_of_toNat_eq he)
  by_cases hack : s.phase.toNat = 8
  · exact .inr (BitVec.eq_of_toNat_eq hack)
  · omega

/-- Between 1 and 38 turns are left in a cycle. -/
theorem Legal.turnsLeft_bounds (h : Legal s) (hp : s.phase ≠ Phase.idle) : turnsLeft s ≤ 38 ∧ 0 < turnsLeft s := by
  rcases h.cycle_phase hp with ⟨h1, h7⟩ | hack
  · rw [turnsLeft_early h1 h7]
    omega
  · obtain ⟨hi, -⟩ := h.ack_byte hack
    have hlen := s.ackLen.isLt
    rw [turnsLeft_ack hack]
    omega

/-- A later phase has fewer turns left: the 31 of the longest line are fewer than those left at CLEAR. -/
theorem Advanced.nearer (h : Advanced s t) (h1 : 1 ≤ s.phase.toNat) (h7 : s.phase.toNat ≤ 7) :
    turnsLeft t < turnsLeft s := by
  have hlater := h.later
  have hupto := h.upto_ack
  have hlen := t.ackLen.isLt
  rw [turnsLeft_early h1 h7]
  by_cases hack : t.phase = Phase.ack
  · rw [turnsLeft_ack hack]
    omega
  · have h8 : t.phase.toNat ≠ 8 := fun he => hack (BitVec.eq_of_toNat_eq he)
    rw [turnsLeft_early (by omega) (by omega)]
    omega

/-- In a cycle the turn completes and brings the end nearer. -/
theorem Legal.turn_nearer (h : Legal s) (hp : s.phase ≠ Phase.idle) :
    ∃ t, exec (decodeSeq s.phase) s = .next t ∧ turnsLeft t < turnsLeft s := by
  rcases h.cycle_phase hp with ⟨h1, h7⟩ | hack
  · obtain ⟨t, ht, hadv⟩ := h.advances h1 h7
    exact ⟨t, ht, hadv.nearer h1 h7⟩
  · obtain ⟨hi, -⟩ := h.ack_byte hack
    obtain ⟨t, b, ht, -, -, hnext, -⟩ := ackEmitsOneByteOfTheLine s h hack
    refine ⟨t, by rw [hack]; exact ht, ?_⟩
    rw [turnsLeft_ack hack]
    split at hnext
    · rw [turnsLeft_idle hnext.1]
      omega
    · obtain ⟨hphase, hi', hlen⟩ := hnext
      rw [turnsLeft_ack hphase, hi', hlen]
      omega

/-! ### Steps in a cycle -/

/-- The poll context has the next step: by the trace, or because nothing more follows (R250). -/
def TurnNext (s : State) : Prop := (s.sched = [] ∧ s.env.endless = false) ∨ ∃ rest, s.sched = .turn :: rest

/-- With no READ_WAIT held its step is the micro-step that `phase` names (R132). -/
theorem step_of_turn (hturn : TurnNext s) (hh : ¬(s.readHeld = true ∧ s.phase = Phase.idle)) :
    step s = exec (decodeSeq s.phase) s.consume := by
  have hword : s.nextWord = some s.pollWord := by
    rcases hturn with ⟨hend, hquiet⟩ | ⟨rest, hnext⟩
    · exact State.nextWord_end hend hquiet
    · exact State.nextWord_turn hnext
  exact step_of_decode hword (decode_pollWord hh)

/-- A step changes the environment's part only by taking its item off (R6, R29, R55). -/
theorem step_sameFixed (h : step s = .next t) : SameFixed s.consume t := by
  rcases step_cases h with ⟨-, -, -, -, rfl⟩ | ⟨w, i, -, -, -, he⟩
  · exact ⟨rfl, rfl, rfl, rfl, rfl⟩
  · exact he.sameFixed

theorem State.consume_samePoll (s : State) : SamePoll s s.consume := by simp [SamePoll, SameLine]

theorem Legal.step_turn (h : Legal s) (hturn : TurnNext s) (hp : s.phase ≠ Phase.idle) :
    ∃ t, step s = .next t ∧ Legal t ∧ turnsLeft t < turnsLeft s := by
  obtain ⟨t, ht, hlt⟩ := h.consume.turn_nearer (by rwa [State.consume_phase])
  rw [State.consume_phase, ← step_of_turn hturn fun hh => hp hh.2] at ht
  rw [s.consume_samePoll.turnsLeft] at hlt
  exact ⟨t, ht, everyStepKeepsTheLegalState s t h ht, hlt⟩

/-- A status read that is no wide one at an odd offset completes, and writes only its output (R39). -/
theorem step_stRead {wide : Bool} {a : BitVec 4} {rest : List Stimulus} (h : s.sched = .stRead wide a :: rest)
    (hok : fromOutside (.stRead wide a) = true) : ∃ o, step s = .next ({ s with sched := rest }.setOut o) := by
  obtain ⟨hbyte, hhalf, -⟩ := statusReadHasNoSideEffect { s with sched := rest } a
  rw [step_of_item h (by simp) (State.nextWord_stRead h) rfl]
  cases wide with
  | false => exact ⟨_, hbyte⟩
  | true => exact ⟨_, hhalf (by simpa [fromOutside] using hok)⟩

/-- Settles O58: a turn brings the end nearer, and what comes from outside keeps the poll context, RESET apart. -/
theorem eachTurnBringsTheCyclesEndNearer : Obligations.EachTurnBringsTheCyclesEndNearer := by
  intro s hs hp
  obtain ⟨h38, hpos⟩ := hs.turnsLeft_bounds hp
  refine ⟨h38, hpos, fun hturn => ?turn, fun b rest h => ?rx, fun a rest h => ?byte, fun a rest h ha => ?half,
    fun a d rest h => ⟨_, step_of_stWrite h, rfl, rfl⟩⟩
  case turn =>
    obtain ⟨t, ht, -, hlt⟩ := hs.step_turn hturn hp
    exact ⟨t, ht, hlt⟩
  case rx =>
    obtain ⟨t, ht, -, -, hrx⟩ := hs.step_rx h
    exact ⟨t, ht, hrx.poll.turnsLeft, hrx.poll.1⟩
  case byte =>
    obtain ⟨o, ht⟩ := step_stRead h rfl
    exact ⟨_, ht, rfl, rfl⟩
  case half =>
    obtain ⟨o, ht⟩ := step_stRead h (by simp [fromOutside, ha])
    exact ⟨_, ht, rfl, rfl⟩

end Sys2Proof.Machine
end

section
/-! SUPPORT. A dispatch cycle under any interleaving, in a finite trace and in an endless run (R142, R205, R250). -/

namespace Sys2Proof.Machine

variable {s t : State} {x : Stimulus} {rest : List Stimulus}

/-! ### One item of a trace -/

/-- The step on an item leaves what follows the trace as it is; an item other than RESET leaves the rest of the trace. -/
theorem env_of_step_cons (hsched : s.sched = x :: rest) (h : step s = .next t) : t.env = s.env := by
  obtain ⟨-, -, -, henv, -⟩ := step_sameFixed h
  rw [henv, State.consume, s.refill_cons hsched, hsched]
  cases x <;> rfl

theorem sched_of_step_cons (hsched : s.sched = x :: rest) (hx : ∀ arriving, x ≠ .rst arriving) (h : step s = .next t) :
    t.sched = rest := by
  obtain ⟨-, -, hrest, -⟩ := step_sameFixed h
  rw [hrest, State.consume_cons hsched hx]

/-- A RESET in the trace leads to IDLE, and the bytes held meanwhile come next (R230, R233). -/
theorem step_rst {arriving : List Byte} (hsched : s.sched = .rst arriving :: rest) :
    ∃ t, step s = .next t ∧ t.phase = Phase.idle ∧ t.readHeld = false ∧
      ∃ bs : List Byte, t.sched = bs.map Stimulus.rx ++ rest := by
  have hword : s.nextWord = some (.rst 1#1) := by simp only [State.nextWord, s.refill_cons hsched, hsched]
  refine ⟨_, step_of_decode hword rfl, rfl, rfl, keptBytes s.draws arriving, ?_⟩
  show s.consume.sched = _
  rw [State.consume, s.refill_cons hsched, hsched]
  rfl

/-- What comes from outside leaves the poll context as it is, or is a RESET (R125, R206, R230). -/
theorem Legal.step_outside (h : Legal s) (hsched : s.sched = x :: rest) (hx : fromOutside x = true) :
    ∃ t, step s = .next t ∧ Legal t ∧ t.env = s.env ∧
      ((SamePoll s t ∧ t.sched = rest) ∨
       (t.phase = Phase.idle ∧ t.readHeld = false ∧ ∃ bs : List Byte, t.sched = bs.map Stimulus.rx ++ rest)) := by
  suffices hstep : ∃ t, step s = .next t ∧ ((SamePoll s t ∧ t.sched = rest) ∨
      (t.phase = Phase.idle ∧ t.readHeld = false ∧ ∃ bs : List Byte, t.sched = bs.map Stimulus.rx ++ rest)) by
    obtain ⟨t, ht, hcases⟩ := hstep
    exact ⟨t, ht, everyStepKeepsTheLegalState s t h ht, env_of_step_cons hsched ht, hcases⟩
  cases x with
  | rx b =>
    obtain ⟨t, ht, -, hrest, hrx⟩ := h.step_rx hsched
    exact ⟨t, ht, .inl ⟨hrx.poll, hrest⟩⟩
  | rst arriving =>
    obtain ⟨t, ht, hreset⟩ := step_rst hsched
    exact ⟨t, ht, .inr hreset⟩
  | stRead wide a =>
    obtain ⟨o, ht⟩ := step_stRead hsched hx
    exact ⟨_, ht, .inl ⟨⟨rfl, rfl, rfl, rfl, rfl, rfl, rfl⟩, rfl⟩⟩
  | stWrite a d => exact ⟨_, step_of_stWrite hsched, .inl ⟨⟨rfl, rfl, rfl, rfl, rfl, rfl, rfl⟩, rfl⟩⟩
  | host op => simp [fromOutside] at hx
  | turn => simp [fromOutside] at hx

/-! ### A finite trace -/

/-- An item of a cycle's trace ends the cycle or takes off its turns. -/
theorem Legal.step_cycle (h : Legal s) (hp : s.phase ≠ Phase.idle) (hsched : s.sched = x :: rest)
    (hx : x = .turn ∨ fromOutside x = true) :
    ∃ t, step s = .next t ∧ Legal t ∧ t.env = s.env ∧
      (t.phase = Phase.idle ∨ (t.sched = rest ∧ turnsLeft t + [x].count .turn ≤ turnsLeft s)) := by
  rcases hx with rfl | hx
  · obtain ⟨t, ht, hlegal, hlt⟩ := h.step_turn (.inr ⟨rest, hsched⟩) hp
    exact ⟨t, ht, hlegal, env_of_step_cons hsched ht, .inr ⟨sched_of_step_cons hsched (by simp) ht, by simpa using hlt⟩⟩
  · obtain ⟨t, ht, hlegal, henv, ⟨hpoll, hrest⟩ | ⟨hidle, -⟩⟩ := h.step_outside hsched hx
    · have hcount : [x].count .turn = 0 := by
        refine List.count_eq_zero.2 fun hmem => ?_
        simp [← List.mem_singleton.1 hmem, fromOutside] at hx
      exact ⟨t, ht, hlegal, henv, .inr ⟨hrest, by rw [hcount, hpoll.turnsLeft]; exact Nat.le_refl _⟩⟩
    · exact ⟨t, ht, hlegal, henv, .inl hidle⟩

/-- Along a cycle's trace the cycle ends, or every turn of the trace has brought the end nearer. -/
theorem Legal.run_cycle {tr : List Stimulus} (h : Legal s) (hp : s.phase ≠ Phase.idle) (hsched : s.sched = tr ++ rest)
    (htr : ∀ x ∈ tr, x = .turn ∨ fromOutside x = true) :
    ∃ k t, k ≤ tr.length ∧ Host.Core.run core k s = .next t ∧ Legal t ∧ t.env = s.env ∧
      (t.phase = Phase.idle ∨
        (t.phase ≠ Phase.idle ∧ t.sched = rest ∧ turnsLeft t + tr.count .turn ≤ turnsLeft s)) := by
  induction tr generalizing s with
  | nil => exact ⟨0, s, Nat.le_refl _, rfl, h, rfl, .inr ⟨hp, hsched, Nat.le_refl _⟩⟩
  | cons x tr ih =>
    obtain ⟨u, hu, hulegal, huenv, hcases⟩ := h.step_cycle hp hsched (htr x List.mem_cons_self)
    by_cases hidle : u.phase = Phase.idle
    · exact ⟨1, u, by simp, run_succ hu, hulegal, huenv, .inl hidle⟩
    obtain ⟨husched, hule⟩ := hcases.resolve_left hidle
    obtain ⟨k, t, hk, hrun, hlegal, henv, hend⟩ := ih hulegal hidle husched fun y hy => htr y (List.mem_cons_of_mem x hy)
    refine ⟨k + 1, t, Nat.succ_le_succ hk, by rw [run_succ hu, hrun], hlegal, henv.trans huenv, hend.imp_right ?_⟩
    rintro ⟨htp, htsched, hle⟩
    rw [← List.singleton_append, List.count_append]
    exact ⟨htp, htsched, by omega⟩

/-! ### An endless run -/

/-- The first step of a run draws the next round itself. -/
theorem run_refill (k : Nat) : Host.Core.run core (k + 1) s.refill = Host.Core.run core (k + 1) s := by
  have hstep : core.step s.refill = core.step s := step_refill s
  simp only [Host.Core.run, hstep]

theorem Legal.refill (h : Legal s) : Legal s.refill := by
  rw [s.refill_eq]
  exact { h with }

/-- A round stays in the endless run, and leaves whether the HOST polls (R250). -/
theorem State.refill_env (s : State) : s.refill.env.endless = s.env.endless ∧ s.refill.env.polls = s.env.polls := by
  unfold State.refill State.drawRound
  split
  · split
    · dsimp only
      split <;> exact ⟨rfl, rfl⟩
    · exact ⟨rfl, rfl⟩
  · exact ⟨rfl, rfl⟩

/-- A round of an endless run in a cycle ends with a turn. -/
theorem State.refill_sched_cycle (hp : s.phase ≠ Phase.idle) (hsched : s.sched = []) (he : s.env.endless = true) :
    ∃ arrived, (∀ x ∈ arrived, fromOutside x = true) ∧ s.refill.sched = arrived ++ [.turn] := by
  obtain ⟨arrived, hout, hround⟩ := s.drawRound_sched
  rw [if_neg fun h => hp h.1, ← s.refill_endless hsched he] at hround
  exact ⟨arrived, hout, hround⟩

/-- Round by round the turns that are left go down, so the cycle ends. -/
theorem Legal.cycle_ends {n : Nat} (h : Legal s) (hp : s.phase ≠ Phase.idle) (hsched : s.sched = [])
    (he : s.env.endless = true) (hn : turnsLeft s ≤ n) :
    ∃ k t, Host.Core.run core k s = .next t ∧ Legal t ∧ t.phase = Phase.idle ∧ t.env.endless = true ∧
      t.env.polls = s.env.polls := by
  induction n generalizing s with
  | zero =>
    obtain ⟨-, hpos⟩ := h.turnsLeft_bounds hp
    omega
  | succ n ih =>
    obtain ⟨arrived, hout, hround⟩ := State.refill_sched_cycle hp hsched he
    obtain ⟨hendless, hpolls⟩ := s.refill_env
    have hsame : turnsLeft s.refill = turnsLeft s := by rw [s.refill_eq]; rfl
    have hitems : ∀ x ∈ arrived ++ [.turn], x = .turn ∨ fromOutside x = true := by
      intro x hx
      rcases List.mem_append.1 hx with hx | hx
      · exact .inr (hout x hx)
      · exact .inl (List.mem_singleton.1 hx)
    obtain ⟨k, u, -, hrun, hlegal, henv, hend⟩ := h.refill.run_cycle (rest := []) (by rwa [s.refill_phase])
      (by rw [hround, List.append_nil]) hitems
    rw [List.count_append, List.count_singleton_self] at hend
    cases k with
    | zero =>
      cases hrun
      rcases hend with hidle | ⟨-, -, hle⟩
      · exact absurd (s.refill_phase ▸ hidle) hp
      · omega
    | succ k =>
      rw [run_refill] at hrun
      rw [← henv] at hendless hpolls
      rcases hend with hidle | ⟨hup, husched, hle⟩
      · exact ⟨_, u, hrun, hlegal, hidle, hendless.trans he, hpolls⟩
      · obtain ⟨j, t, hrun', hlegal', hidle, hendless', hpolls'⟩ := ih hlegal hup husched (hendless.trans he) (by omega)
        exact ⟨_, t, (run_add hrun).trans hrun', hlegal', hidle, hendless', hpolls'.trans hpolls⟩

/-- Settles O59: 38 turns are as many as can be left, and an endless run gives one in every round. -/
theorem aCycleEndsWithin38TurnsUnderAnyInterleaving : Obligations.ACycleEndsWithin38TurnsUnderAnyInterleaving := by
  refine ⟨fun s tr rest hs hp hsched htr hcount => ?_, fun s hs hp hsched he => hs.cycle_ends hp hsched he (Nat.le_refl _)⟩
  obtain ⟨h38, -⟩ := hs.turnsLeft_bounds hp
  obtain ⟨k, t, hk, hrun, hlegal, -, hidle | ⟨htp, -, hle⟩⟩ := hs.run_cycle hp hsched htr
  · exact ⟨k, t, hk, hrun, hidle⟩
  · obtain ⟨-, hpos⟩ := hlegal.turnsLeft_bounds htp
    omega

end Sys2Proof.Machine
end

section
/-! SUPPORT. A terminator during a dispatch cycle: lost up to CLEAR, kept in ACK (R136, R234). -/

namespace Sys2Proof.Machine

variable {s t : State} {x : Stimulus} {tr rest : List Stimulus}

/-- What an RX event's step leaves in RB (R101, R121, R122). -/
theorem Legal.step_rx_contents {b : Byte} (h : Legal s) (hsched : s.sched = .rx b :: rest) (ht : step s = .next t) :
    t.contents = if s.count = s.cfg.n - 1 then s.contents else s.contents ++ [pushedByte b] := by
  obtain ⟨u, hu, -, -, hcontents⟩ := h.consume.ringOk.exec_decodeRx b
  have hstep : step s = .next u := by rw [step_of_decode (State.nextWord_rx hsched) rfl, hu]
  cases ht.symm.trans hstep
  simpa using hcontents

/-! ### From FETCH0 to CLEAR -/

/-- A turn of the trace from FETCH0 to CLEAR. -/
theorem Legal.step_advance (h : Legal s) (hsched : s.sched = .turn :: rest) (h1 : 1 ≤ s.phase.toNat)
    (h7 : s.phase.toNat ≤ 7) : ∃ t, step s = .next t ∧ Legal t ∧ t.sched = rest ∧ Advanced s.consume t := by
  obtain ⟨t, ht, hadv⟩ := h.consume.advances (by simpa using h1) (by simpa using h7)
  have hidle : s.phase ≠ Phase.idle := fun hp => by simp [hp] at h1
  rw [State.consume_phase, ← step_of_turn (.inr ⟨rest, hsched⟩) fun hh => hidle hh.2] at ht
  exact ⟨t, ht, everyStepKeepsTheLegalState s t h ht, sched_of_step_cons hsched (by simp) ht, hadv⟩

/-- Turns and RX events, enough of them turns, lead into ACK with `frame_ready` down. With turns alone only the POPs up to
DRAIN change RB. -/
theorem Legal.run_to_ack (h : Legal s) (h1 : 1 ≤ s.phase.toNat) (h7 : s.phase.toNat ≤ 7) (hsched : s.sched = tr ++ rest)
    (htr : ∀ x ∈ tr, x = .turn ∨ ∃ b, x = .rx b) (hcount : 8 - s.phase.toNat ≤ tr.count .turn) :
    ∃ k t, k ≤ tr.length ∧ Host.Core.run core k s = .next t ∧ t.phase = Phase.ack ∧ t.frameReady = false ∧
      t.sched = tr.drop k ++ rest ∧
      ((∀ x ∈ tr, x = .turn) → ∃ n ≤ 6 - s.phase.toNat, t.contents = s.contents.drop n) := by
  induction tr generalizing s with
  | nil =>
    rw [List.count_nil] at hcount
    omega
  | cons x tr ih =>
    have htr' : ∀ y ∈ tr, y = .turn ∨ ∃ b, y = .rx b := fun y hy => htr y (List.mem_cons_of_mem x hy)
    rcases htr x List.mem_cons_self with rfl | ⟨b, rfl⟩
    · obtain ⟨u, hu, hulegal, husched, -, hlater, hupto, hpop, hready⟩ := h.step_advance hsched h1 h7
      rw [State.consume_phase] at hlater hpop
      rw [State.consume_contents] at hpop
      rw [List.count_cons_self] at hcount
      by_cases hack : u.phase.toNat = 8
      · refine ⟨1, u, by simp, run_succ hu, BitVec.eq_of_toNat_eq hack, hready hack, husched, fun _ => ⟨_, ?_, hpop⟩⟩
        split <;> omega
      · obtain ⟨k, t, hk, hrun, hphase, htready, htsched, hturns⟩ :=
          ih hulegal (by omega) (by omega) husched htr' (by omega)
        refine ⟨k + 1, t, Nat.succ_le_succ hk, by rw [run_succ hu, hrun], hphase, htready, htsched, fun hall => ?_⟩
        obtain ⟨n, hn, hcontents⟩ := hturns fun y hy => hall y (List.mem_cons_of_mem _ hy)
        refine ⟨_, ?_, by rw [hcontents, hpop, List.drop_drop]⟩
        split <;> omega
    · obtain ⟨u, hu, hulegal, husched, hrx⟩ := h.step_rx hsched
      have hphase : u.phase = s.phase := hrx.poll.1
      rw [List.count_cons_of_ne (by simp)] at hcount
      obtain ⟨k, t, hk, hrun, htphase, htready, htsched, -⟩ := ih hulegal (by rwa [hphase]) (by rwa [hphase]) husched htr'
        (by rwa [hphase])
      refine ⟨k + 1, t, Nat.succ_le_succ hk, by rw [run_succ hu, hrun], htphase, htready, htsched, fun hall => ?_⟩
      cases hall _ List.mem_cons_self

/-! ### From ACK on -/

/-- In a cycle no READ_WAIT is held (R104, R131). -/
theorem Legal.not_held (h : Legal s) (hp : s.phase ≠ Phase.idle) : s.readHeld = false :=
  Bool.eq_false_iff.2 fun hr => hp (h.held_idle hr)

/-- The flag is up in ACK, or in IDLE after it with no request taken. -/
structure FrameKept (s : State) : Prop where
  legal : Legal s
  phase : s.phase = Phase.ack ∨ s.phase = Phase.idle
  held : s.readHeld = false
  ready : s.frameReady = true

/-- A turn there is ACK, or the row IDLE, and an RX event can only raise the flag again (R132, R137). -/
theorem FrameKept.step (h : FrameKept s) (hsched : s.sched = x :: rest) (hx : x = .turn ∨ ∃ b, x = .rx b) :
    ∃ t, step s = .next t ∧ FrameKept t ∧ t.sched = rest := by
  obtain ⟨hs, hp, hheld, hready⟩ := h
  rcases hx with rfl | ⟨b, rfl⟩
  · have hturn := step_of_turn (.inr ⟨rest, hsched⟩) (s := s) (by simp [hheld])
    have hrest {t : State} (ht : step s = .next t) : t.sched = rest := sched_of_step_cons hsched (by simp) ht
    rcases hp with hack | hidle
    · obtain ⟨t, b, ht, -, -, hnext, -, -, htready, -, -, -, htheld, -⟩ :=
        ackEmitsOneByteOfTheLine s.consume hs.consume (by rwa [State.consume_phase])
      rw [hack, show decodeSeq Phase.ack = .ack from rfl, ht] at hturn
      refine ⟨t, hturn, ⟨everyStepKeepsTheLegalState s t hs hturn, ?_, by simpa [hheld] using htheld,
        by simpa [hready] using htready⟩, hrest hturn⟩
      split at hnext
      · exact .inr hnext.1
      · exact .inl hnext.1
    · rw [hidle] at hturn
      have hstep : Machine.step s = .next s.consume := hturn.trans (State.atPhase_here (by rw [State.consume_phase, hidle]))
      exact ⟨_, hstep, ⟨hs.consume, .inr (by rw [State.consume_phase, hidle]), by simpa, by simpa⟩, hrest hstep⟩
  · obtain ⟨t, ht, hlegal, htsched, hrx⟩ := hs.step_rx hsched
    obtain ⟨htphase, htheld, -⟩ := hrx.poll
    exact ⟨t, ht, ⟨hlegal, by rwa [htphase], by rw [htheld, hheld], by rw [hrx.ready, hready, Bool.true_or]⟩, htsched⟩

theorem FrameKept.run (h : FrameKept s) (hsched : s.sched = tr ++ rest) (htr : ∀ x ∈ tr, x = .turn ∨ ∃ b, x = .rx b) :
    ∃ t, Host.Core.run core tr.length s = .next t ∧ FrameKept t ∧ t.sched = rest := by
  induction tr generalizing s with
  | nil => exact ⟨s, rfl, h, hsched⟩
  | cons x tr ih =>
    obtain ⟨u, hu, hkept, husched⟩ := h.step hsched (htr x List.mem_cons_self)
    obtain ⟨t, hrun, ht⟩ := ih hkept husched fun y hy => htr y (List.mem_cons_of_mem x hy)
    exact ⟨t, by rw [List.length_cons, run_succ hu, hrun], ht⟩

/-- Settles O60: the terminator's own step keeps `phase` and pushes the sentinel; CLEAR then takes the flag down, and no
step from ACK on does. -/
theorem terminatorBeforeClearIsLostAndInAckKept : Obligations.TerminatorBeforeClearIsLostAndInAckKept := by
  refine ⟨fun s tr rest hs h1 h7 hsched htr hcount => ?lost, fun s rest hs h1 h7 hsched => ?turns,
    fun s tr rest hs hp hsched htr => ?kept⟩
  case lost =>
    obtain ⟨u, hu, hulegal, husched, hrx⟩ := hs.step_rx hsched
    have hphase : u.phase = s.phase := hrx.poll.1
    rw [← hphase] at h1 h7 hcount
    obtain ⟨k, t, hk, hrun, htphase, hready, htsched, -⟩ := hulegal.run_to_ack h1 h7 husched htr hcount
    exact ⟨k, t, hk, by rw [run_succ hu, hrun], htphase, hready, htsched⟩
  case turns =>
    obtain ⟨u, hu, hulegal, husched, hrx⟩ := hs.step_rx hsched
    have hphase : u.phase = s.phase := hrx.poll.1
    have hpushed := hs.step_rx_contents hsched hu
    have hturns : ∀ x ∈ List.replicate (8 - s.phase.toNat) Stimulus.turn, x = .turn :=
      fun x hx => List.eq_of_mem_replicate hx
    obtain ⟨k, t, hk, hrun, htphase, hready, -, hcontents⟩ := hulegal.run_to_ack (by rwa [hphase]) (by rwa [hphase]) husched
      (fun x hx => .inl (hturns x hx)) (by rw [hphase, List.count_replicate_self])
    obtain ⟨n, hn, hdrop⟩ := hcontents hturns
    refine ⟨k, n, t, by simpa using hk, by rwa [hphase] at hn, by rw [run_succ hu, hrun], htphase, hready, ?_⟩
    rw [hdrop, hpushed]
    split
    · rw [List.append_nil]
    · rfl
  case kept =>
    obtain ⟨u, hu, hulegal, husched, hrx⟩ := hs.step_rx hsched
    have hack : u.phase = Phase.ack := hrx.poll.1.trans hp
    have hheld : u.readHeld = false := hulegal.not_held (by rw [hack]; decide)
    have hkept : FrameKept u := ⟨hulegal, .inl hack, hheld, by rw [hrx.ready]; simp [term]⟩
    obtain ⟨t, hrun, ht, htsched⟩ := hkept.run husched htr
    exact ⟨t, by rw [run_succ hu, hrun], ht.ready, htsched⟩

end Sys2Proof.Machine
end

section
/-! SUPPORT. The FETCHes and DRAIN of a frame, with no RX event between (R133, R134, R140). -/

namespace Sys2Proof.Machine

variable {s t u : State}

/-! ### The payload, byte by byte -/

/-- The payload that `n` FETCHes find. -/
def payloadOf (n : Nat) (p : List Byte) : List Byte := (p.takeWhile (fun b => b != sent)).take n

/-- The POPs of `n` FETCHes that are still to come, and of DRAIN (R140). -/
def popsLeft (n : Nat) (p : List Byte) : Nat := min ((payloadOf n p).length + 1) n + 1

/-- The characters that `n` FETCHes store: the payload folded, then spaces (R133). -/
def fetchedChars (n : Nat) (p : List Byte) : List Byte :=
  (payloadOf n p).map fold ++ List.replicate (n - (payloadOf n p).length) space

theorem payloadOf_length_le (n : Nat) (p : List Byte) : (payloadOf n p).length ≤ n := List.length_take_le ..

theorem payloadOf_end {n : Nat} {p : List Byte} (h : p.headD 0xFF#8 = 0xFF#8) : payloadOf n p = [] := by
  cases p with
  | nil => simp [payloadOf]
  | cons b p =>
    have hb : b = sent := h
    simp [payloadOf, hb]

theorem payloadOf_cons {n : Nat} {b : Byte} {p : List Byte} (h : b ≠ sent) :
    payloadOf (n + 1) (b :: p) = b :: payloadOf n p := by
  simp [payloadOf, h]

theorem popsOf_eq (p : List Byte) : popsOf p = popsLeft 4 p := by
  have hle := payloadOf_length_le 4 p
  have hpay : payload p = payloadOf 4 p := rfl
  rw [popsOf, popsLeft, hpay]
  split <;> omega

theorem popsOf_le (p : List Byte) : popsOf p ≤ 5 := by
  rw [popsOf_eq, popsLeft]
  omega

/-- Four characters, or fewer and then spaces. -/
theorem padded_chars : ∀ q : List Byte, q.length ≤ 4 →
    Token.chars ⟨(q[0]?.map fold).getD space, (q[1]?.map fold).getD space, (q[2]?.map fold).getD space,
      (q[3]?.map fold).getD space⟩ = q.map fold ++ List.replicate (4 - q.length) space
  | [], _ | [_], _ | [_, _], _ | [_, _, _], _ | [_, _, _, _], _ => rfl
  | _ :: _ :: _ :: _ :: _ :: _, h => by simp only [List.length_cons] at h; omega

theorem tokenOf_chars (p : List Byte) : (tokenOf p).chars = fetchedChars 4 p :=
  padded_chars (payload p) (payloadOf_length_le 4 p)

/-! ### The FETCHes and DRAIN -/

/-- From `s` to `t` no more than FETCH and DRAIN did was done: `tail`, the shared state, the flag, TX and what is fixed stay. -/
structure OnlyFetched (s t : State) : Prop where
  tail : t.tail = s.tail
  shared : SameShared s t
  ready : t.frameReady = s.frameReady
  tx : t.tx = s.tx
  fixed : SameFixed s t

theorem SameFixed.trans (h : SameFixed s u) (h' : SameFixed u t) : SameFixed s t := by
  obtain ⟨hcfg, hrom, hsched, henv, hdraws⟩ := h
  rw [SameFixed, ← hcfg, ← hrom, ← hsched, ← henv, ← hdraws]
  exact h'

theorem OnlyFetched.trans (h : OnlyFetched s u) (h' : OnlyFetched u t) : OnlyFetched s t where
  tail := h'.tail.trans h.tail
  shared := h.shared.trans h'.shared
  ready := h'.ready.trans h.ready
  tx := h'.tx.trans h.tx
  fixed := h.fixed.trans h'.fixed

/-- Nothing follows but turns of the poll context. -/
def Quiet (s : State) : Prop := s.sched = [] ∧ s.env.endless = false

theorem Quiet.congr (h : Quiet s) (hf : SameFixed s t) : Quiet t := by
  obtain ⟨-, -, hsched, henv, -⟩ := hf
  rw [Quiet, hsched, henv]
  exact h

/-- In a cycle the step is then the micro-step that `phase` names (R132). -/
theorem Quiet.step (h : Quiet s) (hp : s.phase ≠ Phase.idle) : Machine.step s = exec (decodeSeq s.phase) s := by
  rw [step_of_turn (.inl h) fun hh => hp hh.2, State.consume_end h.1 h.2]

theorem Legal.step_drain (h : Legal s) (hq : Quiet s) (hp : s.phase = Phase.drain) :
    ∃ t, step s = .next t ∧ Legal t ∧ t.phase = Phase.classify ∧ t.tok = s.tok ∧ t.contents = s.contents.drop 1 ∧
      OnlyFetched s t := by
  obtain ⟨t, ht, hphase, hcontents, -, htail, -, hshared, hready, ⟨htok, -⟩, -, htx, hfixed, -⟩ :=
    drainDiscardsOneByte s h hp
  have hstep : step s = .next t := by rw [hq.step (by rw [hp]; decide), hp]; exact ht
  exact ⟨t, hstep, everyStepKeepsTheLegalState s t h hstep, hphase, htok, by rw [hcontents, List.drop_one],
    htail, hshared, hready, htx, hfixed⟩

/-- A FETCH in a quiet run: the token ends at the sentinel, or one character more is stored. -/
theorem Legal.step_fetch {k : Nat} (h : Legal s) (hq : Quiet s) (hk : k ≤ 3) (hp : s.phase.toNat = k + 1) :
    ∃ t, step s = .next t ∧ Legal t ∧ OnlyFetched s t ∧
      ((s.contents.headD 0xFF#8 = 0xFF#8 ∧ t.phase = Phase.drain ∧ t.contents = s.contents.drop 1 ∧
          t.tok.chars = s.tok.chars.take k ++ List.replicate (4 - k) space) ∨
       (∃ b, b ≠ sent ∧ s.contents = b :: t.contents ∧ t.phase.toNat = k + 2 ∧
          t.tok.chars.take (k + 1) = s.tok.chars.take k ++ [fold b])) := by
  have hi := decodeSeq_mem_fetchOps hk hp
  have hidle : s.phase ≠ Phase.idle := fun he => by simp [he] at hp
  have hlegal {t : State} (ht : exec (decodeSeq s.phase) s = .next t) : step s = .next t ∧ Legal t := by
    rw [← hq.step hidle] at ht
    exact ⟨ht, everyStepKeepsTheLegalState s t h ht⟩
  by_cases hv : fold (s.contents.headD 0xFF#8) = 0xFF#8
  · obtain ⟨t, ht, htok, hphase, hcontents, -, htail, -, hshared, hready, -, -, -, -, -, htx, hfixed, -⟩ :=
      fetchPadsTheTokenAtTheSentinel _ hi s h hp hv
    obtain ⟨hstep, hl⟩ := hlegal ht
    exact ⟨t, hstep, hl, ⟨htail, hshared, hready, htx, hfixed⟩,
      .inl ⟨fold_eq_sent_iff.1 hv, hphase, by rw [hcontents, List.drop_one], htok⟩⟩
  · obtain ⟨t, ht, htok, hphase, hcontents, -, htail, -, hshared, hready, -, -, -, -, -, htx, hfixed, -⟩ :=
      fetchStoresTheFoldedCharacter _ hi s h hp hv
    obtain ⟨hstep, hl⟩ := hlegal ht
    refine ⟨t, hstep, hl, ⟨htail, hshared, hready, htx, hfixed⟩, .inr ?_⟩
    cases hc : s.contents with
    | nil => exact absurd (by rw [hc]; rfl) hv
    | cons b bs =>
      rw [hc] at hv htok hcontents
      refine ⟨b, mt fold_eq_sent_iff.2 hv, by rw [hcontents]; rfl, ?_, ?_⟩
      · rw [hphase]
        simp only
        split <;> omega
      · rw [htok, ← Token.chars_put hk, Token.take_chars_put hk]
        rfl

/-- With `n` FETCHes to come, as many steps as they and DRAIN have POPs complete the token and remove those bytes. -/
theorem Legal.run_fetches {n : Nat} (h : Legal s) (hq : Quiet s) (hn : n ≤ 4) (hp : s.phase.toNat + n = 5) :
    ∃ t, Host.Core.run core (popsLeft n s.contents) s = .next t ∧ Legal t ∧ t.phase = Phase.classify ∧
      t.tok.chars = s.tok.chars.take (4 - n) ++ fetchedChars n s.contents ∧
      t.contents = s.contents.drop (popsLeft n s.contents) ∧ OnlyFetched s t := by
  induction n generalizing s with
  | zero =>
    obtain ⟨t, ht, hl, hphase, htok, hcontents, honly⟩ := h.step_drain hq (BitVec.eq_of_toNat_eq hp)
    exact ⟨t, run_succ ht, hl, hphase, by rw [htok]; rfl, hcontents, honly⟩
  | succ n ih =>
    obtain ⟨u, hu, hul, hfetched, ⟨hend, hdrain, hcontents, htok⟩ | ⟨b, hb, hcontents, hphase, htok⟩⟩ :=
      h.step_fetch (k := 3 - n) hq (by omega) (by omega)
    · obtain ⟨t, ht, hl, htphase, httok, htcontents, honly⟩ := hul.step_drain (hq.congr hfetched.fixed) hdrain
      have hpops : popsLeft (n + 1) s.contents = 2 := by
        rw [popsLeft, payloadOf_end hend, List.length_nil]
        omega
      have hchars : fetchedChars (n + 1) s.contents = List.replicate (n + 1) space := by
        rw [fetchedChars, payloadOf_end hend]
        rfl
      rw [hpops, hchars]
      refine ⟨t, by rw [run_succ hu, run_succ ht]; rfl, hl, htphase, ?_, by rw [htcontents, hcontents, List.drop_drop],
        hfetched.trans honly⟩
      rw [httok, htok, show 4 - (3 - n) = n + 1 by omega, show 4 - (n + 1) = 3 - n by omega]
    · obtain ⟨t, hrun, hl, htphase, httok, htcontents, honly⟩ := ih hul (hq.congr hfetched.fixed) (by omega) (by omega)
      have hpops : popsLeft (n + 1) s.contents = popsLeft n u.contents + 1 := by
        rw [popsLeft, popsLeft, hcontents, payloadOf_cons hb, List.length_cons]
        omega
      have hchars : fetchedChars (n + 1) s.contents = fold b :: fetchedChars n u.contents := by
        rw [fetchedChars, hcontents, payloadOf_cons hb, List.length_cons, Nat.add_sub_add_right]
        rfl
      rw [hpops, hchars]
      refine ⟨t, by rw [run_succ hu, hrun], hl, htphase, ?_, by rw [htcontents, hcontents, List.drop_succ_cons],
        hfetched.trans honly⟩
      rw [httok, show 4 - n = 3 - n + 1 by omega, htok, show 4 - (n + 1) = 3 - n by omega, List.append_assoc]
      rfl

/-- From FETCH0 to CLASSIFY, all four FETCHes are to come. -/
theorem Legal.run_to_classify (h : Legal s) (hq : Quiet s) (hp : s.phase = Phase.fetch0) :
    ∃ t, Host.Core.run core (popsOf s.contents) s = .next t ∧ Legal t ∧ t.phase = Phase.classify ∧
      t.tok = tokenOf s.contents ∧ t.contents = s.contents.drop (popsOf s.contents) ∧ OnlyFetched s t := by
  obtain ⟨t, hrun, hl, hphase, htok, hcontents, honly⟩ := h.run_fetches (n := 4) hq (by decide) (by rw [hp]; rfl)
  rw [← popsOf_eq] at hrun hcontents
  refine ⟨t, hrun, hl, hphase, Token.chars_inj.1 ?_, hcontents, honly⟩
  rw [htok, tokenOf_chars]
  rfl

/-- Settles O56: FETCH by FETCH, by induction on the FETCHes that are to come. -/
theorem fetchesAndDrainNormalizeTheFrame : Obligations.FetchesAndDrainNormalizeTheFrame := by
  intro s hs hp hsched he
  obtain ⟨t, hrun, -, hphase, htok, hcontents, htail, hshared, hready, htx, -⟩ := hs.run_to_classify ⟨hsched, he⟩ hp
  exact ⟨t, hrun, hphase, htok, hcontents, htail, hshared, hready, htx⟩

end Sys2Proof.Machine
end

section
/-! SUPPORT. A whole dispatch cycle from its POLL, with no RX event between (R131 to R137). -/

namespace Sys2Proof.Machine

variable {s t u v : State}

/-! ### ACK, byte by byte -/

/-- The bytes of the line that ACK has still to emit. -/
def lineLeft (s : State) : List Byte := (s.ackBuf.take s.ackLen.toNat).drop s.ackI.toNat

/-- From ACK as many steps as bytes are left emit them and end the cycle in IDLE. -/
theorem Legal.run_ack {line : List Byte} (h : Legal s) (hq : Quiet s) (hp : s.phase = Phase.ack) (hline : lineLeft s = line) :
    ∃ t, Host.Core.run core line.length s = .next t ∧ t.phase = Phase.idle ∧ t.tx = s.tx ++ line ∧
      t.contents = s.contents ∧ SameShared s t ∧ t.frameReady = s.frameReady := by
  induction line generalizing s with
  | nil =>
    obtain ⟨hi, -⟩ := h.ack_byte hp
    have hlen : s.ackBuf.length = 31 := h.ack_buf_length
    have hmax := s.ackLen.isLt
    have hpast := List.drop_eq_nil_iff.1 hline
    rw [List.length_take] at hpast
    omega
  | cons b line ih =>
    obtain ⟨hi, -⟩ := h.ack_byte hp
    obtain ⟨u, c, hu, hc, htx, hnext, hring, hshared, hready, -, -, hbuf, -, -, hfixed⟩ := ackEmitsOneByteOfTheLine s h hp
    have hstep : step s = .next u := by rw [hq.step (by rw [hp]; decide), hp]; exact hu
    have hcontents := hring.contents hfixed.1
    have hhead : (lineLeft s)[0]? = some c := by
      rw [lineLeft, List.getElem?_drop, Nat.add_zero, List.getElem?_take_of_lt hi, hc]
    have hrest : (s.ackBuf.take s.ackLen.toNat).drop (s.ackI.toNat + 1) = line := by
      rw [← List.tail_drop, ← lineLeft, hline, List.tail_cons]
    obtain rfl : b = c := by simpa [hline] using hhead
    split at hnext
    · obtain ⟨huphase, -, -⟩ := hnext
      have hlast : line = [] := by
        rw [← hrest]
        exact List.drop_eq_nil_iff.2 (by rw [List.length_take]; omega)
      rw [hlast]
      exact ⟨u, run_succ hstep, huphase, htx, hcontents, hshared, hready⟩
    · obtain ⟨huphase, hui, hulen⟩ := hnext
      obtain ⟨t, hrun, hphase, httx, htcontents, htshared, htready⟩ :=
        ih (everyStepKeepsTheLegalState s u h hstep) (hq.congr hfixed) huphase
          (by rw [lineLeft, hbuf, hulen, hui, hrest])
      exact ⟨t, by rw [List.length_cons, run_succ hstep, hrun], hphase, by rw [httx, htx, List.append_assoc]; rfl,
        htcontents.trans hcontents, hshared.trans htshared, htready.trans hready⟩

/-! ### From CLASSIFY to the end -/

theorem SharedWritten.congr {tok : Token} {c : TokenClass} (h : SharedWritten u v tok c) (hs : SameShared s u)
    (hcfg : u.cfg = s.cfg) (ht : SameShared v t) : SharedWritten s t tok c := by
  obtain ⟨hcc, hpc, hcm, hpm⟩ := hs
  obtain ⟨tcc, tpc, tcm, tpm⟩ := ht
  cases c <;> simpa only [SharedWritten, hcc, hpc, hcm, hpm, hcfg, tcc, tpc, tcm, tpm] using h

/-- CLASSIFY, CLEAR and the line's ACKs: the class's registers are written, the flag is down, and the line is emitted. -/
theorem Legal.run_from_classify (h : Legal s) (hq : Quiet s) (hp : s.phase = Phase.classify) :
    ∃ t, Host.Core.run core ((lineOf s.rom s.tok).length + 2) s = .next t ∧ (lineOf s.rom s.tok).length ≤ 31 ∧
      t.phase = Phase.idle ∧ t.frameReady = false ∧ t.contents = s.contents ∧ t.tx = s.tx ++ lineOf s.rom s.tok ∧
      SharedWritten s t s.tok (classOf s.rom s.tok) := by
  -- CLASSIFY
  obtain ⟨u, hu, hwritten, ⟨kind, -, hulen, hui, huphase, hubuf, -⟩, huring, -, -, -, hutx, -, hufixed⟩ := exec_classify hp
  have hustep : step s = .next u := by rw [hq.step (by rw [hp]; decide), hp]; exact hu
  have hulegal := everyStepKeepsTheLegalState s u h hustep
  have huq := hq.congr hufixed
  -- CLEAR
  obtain ⟨v, hv, hvready, hvphase, hvring, hvshared, ⟨-, -, hvbuf, hvlen, hvi⟩, -, hvtx, -, hvfixed, -⟩ :=
    clearEndsTheFrame u huphase
  have hvstep : step u = .next v := by rw [huq.step (by rw [huphase]; decide), huphase]; exact hv
  have hvlegal := everyStepKeepsTheLegalState u v hulegal hvstep
  -- the line's ACKs
  have hline : lineLeft v = lineOf s.rom s.tok := by
    rw [lineLeft, hvbuf, hvlen, hvi, hui, hulen, hubuf]
    rfl
  obtain ⟨t, hrun, hphase, htx, hcontents, hshared, hready⟩ := hvlegal.run_ack (huq.congr hvfixed) hvphase hline
  have hmax := u.ackLen.isLt
  refine ⟨t, by rw [run_succ hustep, run_succ hvstep, hrun], by omega, hphase, hready.trans hvready, ?_, ?_, ?_⟩
  · rw [hcontents, hvring.contents hvfixed.1, huring.contents hufixed.1]
  · rw [htx, hvtx, hutx]
  · exact hwritten.congr ⟨rfl, rfl, rfl, rfl⟩ rfl (hvshared.trans hshared)

/-- The POLL's step enters FETCH0 and changes nothing that the cycle reads (R131). -/
theorem Legal.step_poll (h : Legal s) (hp : s.phase = Phase.idle) (hh : s.readHeld = false) (hr : s.frameReady = true)
    (hsched : s.sched = [.host 0b001#3]) (he : s.env.endless = false) :
    ∃ t, step s = .next t ∧ Legal t ∧ Quiet t ∧ t.phase = Phase.fetch0 ∧ t.contents = s.contents ∧ SameShared s t ∧
      t.tx = s.tx ∧ t.rom = s.rom ∧ t.cfg = s.cfg := by
  have hstep : step s = .next ((({ s with sched := [] }).setPhase Phase.fetch0).markTerm false) := by
    rw [step_of_item hsched (by simp) (State.nextWord_host hsched) (i := .pollFrame) (by rw [hr]; rfl)]
    exact exec_pollFrame hp hh hr
  exact ⟨_, hstep, everyStepKeepsTheLegalState s _ h hstep, ⟨rfl, he⟩, rfl, rfl, ⟨rfl, rfl, rfl, rfl⟩, rfl, rfl, rfl⟩

/-- Settles O57: the POLL, the POPs that build the token, and the steps from CLASSIFY on. -/
theorem dispatchCycleClassifiesTheFrame : Obligations.DispatchCycleClassifiesTheFrame := by
  intro s hs hp hh hr hsched he
  obtain ⟨u, hu, hul, huq, huphase, hucontents, hushared, hutx, hurom, hucfg⟩ := hs.step_poll hp hh hr hsched he
  obtain ⟨v, hv, hvl, hvphase, hvtok, hvcontents, -, hvshared, -, hvtx, hvfixed⟩ := hul.run_to_classify huq huphase
  obtain ⟨t, ht, hlen, hphase, hready, hcontents, htx, hwritten⟩ := hvl.run_from_classify (huq.congr hvfixed) hvphase
  obtain ⟨hvcfg, hvrom, -⟩ := hvfixed
  rw [hucontents] at hv hvtok hvcontents
  rw [hvrom, hurom, hvtok] at ht hlen htx hwritten
  have hpops := popsOf_le s.contents
  have hshared := hwritten.congr (hushared.trans hvshared) (hvcfg.trans hucfg) ⟨rfl, rfl, rfl, rfl⟩
  refine ⟨popsOf s.contents + ((lineOf s.rom (tokenOf s.contents)).length + 2), t, by omega,
    by rw [run_succ hu, run_add hv, ht], hphase, hready, hcontents.trans hvcontents, by rw [htx, hvtx, hutx], ?_⟩
  cases hclass : classOf s.rom (tokenOf s.contents) with
  | table i | page | unknown => rwa [hclass] at hshared

end Sys2Proof.Machine
end

section
/-! SUPPORT. IDLE, and the HOST's POLL that comes in an endless run (R132, R250). -/

namespace Sys2Proof.Machine

variable {s t u : State} {x : Stimulus} {rest : List Stimulus}

/-- The row IDLE changes nothing (R132). -/
theorem exec_idle (hp : s.phase = Phase.idle) : exec .idle s = .next s := State.atPhase_here hp

/-! ### Waiting in IDLE -/

/-- A legal state in IDLE with no READ_WAIT held: the poll context can take a request. -/
structure Waiting (s : State) : Prop where
  legal : Legal s
  phase : s.phase = Phase.idle
  held : s.readHeld = false

/-- What comes from outside leaves the poll context waiting, with RX events alone before the rest of the trace. -/
theorem Waiting.step_outside (h : Waiting s) (hsched : s.sched = x :: rest) (hx : fromOutside x = true) :
    ∃ t, step s = .next t ∧ Waiting t ∧ t.env = s.env ∧ ∃ bs : List Byte, t.sched = bs.map Stimulus.rx ++ rest := by
  obtain ⟨t, ht, hlegal, henv, ⟨⟨hphase, hheld, -⟩, hrest⟩ | ⟨hphase, hheld, hbytes⟩⟩ := h.legal.step_outside hsched hx
  · exact ⟨t, ht, ⟨hlegal, hphase.trans h.phase, hheld.trans h.held⟩, henv, [], hrest⟩
  · exact ⟨t, ht, ⟨hlegal, hphase, hheld⟩, henv, hbytes⟩

theorem Waiting.run_rx {bs : List Byte} (h : Waiting s) (hsched : s.sched = bs.map Stimulus.rx ++ rest) :
    ∃ k t, Host.Core.run core k s = .next t ∧ Waiting t ∧ t.env = s.env ∧ t.sched = rest := by
  induction bs generalizing s with
  | nil => exact ⟨0, s, rfl, h, rfl, hsched⟩
  | cons b bs ih =>
    obtain ⟨u, hu, hwait, huenv, -⟩ := h.step_outside hsched rfl
    obtain ⟨k, t, hrun, ht, henv, htsched⟩ := ih hwait (sched_of_step_cons hsched (by simp) hu)
    exact ⟨k + 1, t, by rw [run_succ hu, hrun], ht, henv.trans huenv, htsched⟩

/-- All that arrives in a round is taken, the bytes held over a RESET among it. -/
theorem Waiting.run_outside {arrived : List Stimulus} (h : Waiting s) (hsched : s.sched = arrived ++ rest)
    (hout : ∀ x ∈ arrived, fromOutside x = true) :
    ∃ k t, Host.Core.run core k s = .next t ∧ Waiting t ∧ t.env = s.env ∧ t.sched = rest := by
  induction arrived generalizing s with
  | nil => exact ⟨0, s, rfl, h, rfl, hsched⟩
  | cons x arrived ih =>
    obtain ⟨u, hu, hwait, huenv, bs, hbytes⟩ := h.step_outside hsched (hout x List.mem_cons_self)
    obtain ⟨j, v, hv, hvwait, hvenv, hvsched⟩ := hwait.run_rx hbytes
    obtain ⟨k, t, ht, htwait, henv, htsched⟩ := ih hvwait hvsched fun y hy => hout y (List.mem_cons_of_mem x hy)
    exact ⟨j + k + 1, t, by rw [run_succ hu, run_add hv, ht], htwait, henv.trans (hvenv.trans huenv), htsched⟩

/-- A request other than POLL and READ_WAIT writes at most its output (R77, R105). -/
theorem exec_other_request {op : BitVec 3} (hp : s.phase = Phase.idle) (hh : s.readHeld = false) (hpoll : op ≠ 0b001#3)
    (hread : op ≠ 0b010#3) (ready : Bool) : ∃ o, exec (decodeHop ready op) s = .next (s.setOut o) := by
  rw [decodeHop, if_neg hpoll, if_neg hread]
  split_ifs
  · exact ⟨s.out, State.whenIdle_idle hp hh⟩
  · exact ⟨_, State.whenIdle_idle hp hh⟩
  · exact ⟨s.out, State.whenIdle_idle hp hh⟩

theorem Waiting.step_request {op : BitVec 3} (h : Waiting s) (hsched : s.sched = .host op :: rest) (hpoll : op ≠ 0b001#3)
    (hread : op ≠ 0b010#3) : ∃ t, step s = .next t ∧ Waiting t ∧ t.env = s.env ∧ t.sched = rest := by
  obtain ⟨o, ho⟩ := exec_other_request (s := { s with sched := rest }) h.phase h.held hpoll hread s.frameReady
  have hstep := (step_of_item hsched (by simp) (State.nextWord_host hsched) rfl).trans ho
  exact ⟨_, hstep, ⟨everyStepKeepsTheLegalState s _ h.legal hstep, h.phase, h.held⟩, rfl, rfl⟩

/-! ### The POLL that comes -/

/-- In an endless run the HOST's POLL is the next operation. -/
structure AtPoll (s : State) : Prop where
  waiting : Waiting s
  next_poll : s.nextWord = some (.hop3 0b001#3)
  endless : s.env.endless = true
  polls : s.env.polls = true

/-- Some number of steps leads to the POLL. -/
def PollComes (s : State) : Prop := ∃ k t, Host.Core.run core k s = .next t ∧ AtPoll t

theorem PollComes.of_run {k : Nat} (hrun : Host.Core.run core k s = .next u) (h : PollComes u) : PollComes s := by
  obtain ⟨j, t, ht, hpoll⟩ := h
  exact ⟨k + j, t, (run_add hrun).trans ht, hpoll⟩

/-- Drawing the round first makes no difference: the next step draws it. -/
theorem PollComes.of_refill (hs : Waiting s) (h : PollComes s.refill) : PollComes s := by
  obtain ⟨k, t, hrun, hpoll⟩ := h
  cases k with
  | zero =>
    cases hrun
    have hword : s.refill.nextWord = s.nextWord := by
      rw [State.nextWord, State.nextWord, s.refill_refill, s.refill_pollWord]
    obtain ⟨-, hnext, hendless, hpolls⟩ := hpoll
    obtain ⟨henv, hpenv⟩ := s.refill_env
    exact ⟨0, s, rfl, hs, hword ▸ hnext, henv ▸ hendless, hpenv ▸ hpolls⟩
  | succ k => exact ⟨k + 1, t, (run_refill k).symm.trans hrun, hpoll⟩

/-- A round of a waiting poll context whose HOST polls: what arrives is taken, and the HOST's request is next. -/
theorem Waiting.run_round (h : Waiting s) (hsched : s.sched = []) (he : s.env.endless = true)
    (hpolls : s.env.polls = true) :
    ∃ k t, Host.Core.run core k s.refill = .next t ∧ Waiting t ∧ t.sched = [.host s.env.request.1] ∧
      t.env.ahead = s.env.request.2 ∧ t.env.endless = true ∧ t.env.polls = true := by
  have hrefill : Waiting s.refill := ⟨h.legal.refill, by simp [h.phase], by simp [h.held]⟩
  have htakes := State.takesRequest_iff.2 ⟨h.phase, h.held⟩
  have hround := s.refill_endless hsched he
  obtain ⟨arrived, hout, ⟨-, -, hr⟩ | ⟨hno, -⟩⟩ := s.drawRound_cases
  · rw [hr] at hround
    obtain ⟨k, t, hrun, ht, henv, hrest⟩ := hrefill.run_outside (by rw [hround]; rfl) hout
    rw [hround] at henv
    exact ⟨k, t, hrun, ht, hrest, by rw [henv]; rfl, by rw [henv]; exact he, by rw [henv]; exact hpolls⟩
  · simp [htakes, hpolls] at hno

/-- Request by request those ahead are made, and then the POLL falls due. -/
theorem Waiting.pollComes {ahead : List (BitVec 3)} (h : Waiting s) (hsched : s.sched = []) (he : s.env.endless = true)
    (hpolls : s.env.polls = true) (hahead : s.env.ahead = ahead) (hread : 0b010#3 ∉ ahead) : PollComes s := by
  induction ahead generalizing s with
  | nil =>
    obtain ⟨k, u, hu, hwait, husched, -, hendless, hupolls⟩ := h.run_round hsched he hpolls
    have hpoll : s.env.request.1 = 0b001#3 := by rw [Environment.request, hahead]
    rw [hpoll] at husched
    exact .of_refill h ⟨k, u, hu, hwait, State.nextWord_host husched, hendless, hupolls⟩
  | cons op ops ih =>
    obtain ⟨k, u, hu, hwait, husched, hnext, hendless, hupolls⟩ := h.run_round hsched he hpolls
    have hrequest : s.env.request = (op, ops) := by rw [Environment.request, hahead]
    rw [hrequest] at husched hnext
    refine .of_refill h (.of_run hu ?_)
    by_cases hpoll : op = 0b001#3
    · rw [hpoll] at husched
      exact ⟨0, u, rfl, hwait, State.nextWord_host husched, hendless, hupolls⟩
    · rw [List.mem_cons, not_or] at hread
      obtain ⟨hop, hops⟩ := hread
      obtain ⟨v, hv, hvwait, hvenv, hvsched⟩ := hwait.step_request husched hpoll (Ne.symm hop)
      rw [← hvenv] at hnext hendless hupolls
      exact .of_run (k := 1) (run_succ hv) (ih hvwait hvsched hendless hupolls hnext hops)

/-- Settles O38: the turn in IDLE is the row IDLE, and by induction on the requests ahead the POLL falls due. -/
theorem idleWaitsForAPoll : Obligations.IdleWaitsForAPoll := by
  refine ⟨fun s hp => ⟨exec_idle hp, fun hsched he hh => ?_⟩, fun s hs hp hh hsched he hpolls hread => ?_⟩
  · rw [step_of_turn (.inl ⟨hsched, he⟩) (by simp [hh]), State.consume_end hsched he, hp]
    exact exec_idle hp
  · obtain ⟨k, t, hrun, ⟨hlegal, hphase, hheld⟩, hnext, hendless, htpolls⟩ :=
      Waiting.pollComes ⟨hs, hp, hh⟩ hsched he hpolls rfl hread
    exact ⟨k, t, hrun, hlegal, hphase, hheld, hnext, hendless, htpolls⟩

end Sys2Proof.Machine
end

section
/-! SUPPORT. The digits that the page number reads (R183). -/

namespace Sys2Proof.Machine

/-- The accumulation goes on from `p` over the leading digits, and stops at the first character that is none. -/
theorem pageDigits_eq_foldl_takeWhile (p : Nat) (cs : List Byte) :
    pageDigits p cs = ((cs.takeWhile isDigit).map digitVal).foldl (fun p v => 10 * p + v) p := by
  induction cs generalizing p with
  | nil => rfl
  | cons c cs ih =>
    rw [pageDigits]
    split
    · next hc => rw [List.takeWhile_cons_of_pos hc, ih, List.map_cons, List.foldl_cons]
    · next hc => rw [List.takeWhile_cons_of_neg hc, List.map_nil, List.foldl_nil]

/-- Settles O45: the page number is the accumulation from 0 over three characters, each of at most one decimal place. -/
theorem pageNumberReadsTheLeadingDigits : Obligations.PageNumberReadsTheLeadingDigits := fun t =>
  ⟨pageDigits_eq_foldl_takeWhile 0 [t.t1, t.t2, t.t3], pageNumber_le t⟩

end Sys2Proof.Machine
end

section
/-! SUPPORT. What a step answers from a legal state: it completes, or it is one of three requests that are refused (R52,
R104, R131, R200, R202). -/

namespace Sys2Proof.Machine

variable {s : State} {r : Refusal} {op : BitVec 3} {x : Stimulus} {rest : List Stimulus}

/-! ### The requests that are refused -/

/-- The next item of the trace is a request that is refused for `r`: of the HOST while the poll context is in a dispatch
cycle or held, or of the READER for a 16-bit read at an odd offset. -/
def BadRequest (r : Refusal) (s : State) : Prop :=
  (r = .hostBusy ∧ s.phase ≠ Phase.idle ∧ ∃ op rest, s.sched = .host op :: rest) ∨
  (r = .hostHolding ∧ s.phase = Phase.idle ∧ s.readHeld = true ∧
    ∃ op rest, s.sched = .host op :: rest ∧ op ≠ 0b010#3) ∨
  (r = .misalignedStatusRead ∧ ∃ (a : BitVec 4) (rest : List Stimulus),
    s.sched = .stRead true a :: rest ∧ a.toNat % 2 = 1)

theorem decodeHop_mem_hostOps (ready : Bool) (op : BitVec 3) : decodeHop ready op ∈ hostOps := by
  have hall : ∀ ready op, decodeHop ready op ∈ hostOps := by decide
  exact hall ready op

theorem step_host (hsched : s.sched = .host op :: rest) :
    step s = exec (decodeHop s.frameReady op) { s with sched := rest } :=
  step_of_item hsched (by simp) (State.nextWord_host hsched) rfl

theorem State.whenIdle_holding {r : Result} (hp : s.phase = Phase.idle) (hh : s.readHeld = true) :
    s.whenIdle r = .refused .hostHolding := by
  rw [State.whenIdle, if_pos hp, if_pos hh]

/-- While a READ_WAIT is held the poll context takes no request but READ_WAIT (R104; log entry 9). -/
theorem exec_request_holding (hp : s.phase = Phase.idle) (hh : s.readHeld = true) (hread : op ≠ 0b010#3) (ready : Bool) :
    exec (decodeHop ready op) s = .refused .hostHolding := by
  rw [decodeHop, if_neg hread]
  split_ifs <;> exact State.whenIdle_holding hp hh

theorem BadRequest.step (h : BadRequest r s) : Machine.step s = .refused r := by
  rcases h with ⟨rfl, hp, op, rest, hsched⟩ | ⟨rfl, hp, hh, op, rest, hsched, hread⟩ | ⟨rfl, a, rest, hsched, hodd⟩
  · rw [step_host hsched]
    exact hostIsRefusedDuringADispatchCycle _ (decodeHop_mem_hostOps _ op) _ hp
  · rw [step_host hsched]
    exact exec_request_holding (s := { s with sched := rest }) hp hh hread s.frameReady
  · rw [step_of_item hsched (by simp) (State.nextWord_stRead hsched) rfl]
    exact oddWideStatusReadIsRefused _ a hodd

/-! ### The steps that complete -/

/-- In IDLE a READ_WAIT, or its re-test, holds or pops (R104, R207). -/
theorem Legal.readWait_completes (h : Legal s) (hp : s.phase = Phase.idle) : ∃ t, exec .readWait s = .next t := by
  by_cases hc : s.count = 0
  · exact ⟨_, exec_readWait_empty hp hc⟩
  · obtain ⟨v, t, ht⟩ := h.ringOk.popByte_completes
    exact ⟨_, exec_readWait_pop hp hc ht⟩

/-- In IDLE a HOST request completes unless it finds a READ_WAIT held and is not one itself (R77, R104, R131). -/
theorem Legal.request_completes (h : Legal s) (hp : s.phase = Phase.idle) (hok : op = 0b010#3 ∨ s.readHeld = false) :
    ∃ t, exec (decodeHop s.frameReady op) s = .next t := by
  by_cases hread : op = 0b010#3
  · rw [hread]
    exact h.readWait_completes hp
  · have hh := hok.resolve_left hread
    by_cases hpoll : op = 0b001#3
    · rw [hpoll]
      cases hr : s.frameReady with
      | false => exact ⟨s, (pollWithNoFrameChangesNothing s hp hh hr).2⟩
      | true => exact ⟨_, exec_pollFrame hp hh hr⟩
    · obtain ⟨o, ho⟩ := exec_other_request hp hh hpoll hread s.frameReady
      exact ⟨_, ho⟩

theorem Legal.step_request (h : Legal s) (hsched : s.sched = .host op :: rest) (hp : s.phase = Phase.idle)
    (hok : op = 0b010#3 ∨ s.readHeld = false) : ∃ t, step s = .next t := by
  have hrest : Legal { s with sched := rest } := { h with }
  rw [step_host hsched]
  exact hrest.request_completes hp hok

/-- The poll context's turn completes: a micro-step of a cycle, the row IDLE, or the re-test of a held READ_WAIT (R132,
R207). -/
theorem Legal.step_turnNext (h : Legal s) (hturn : TurnNext s) : ∃ t, step s = .next t := by
  by_cases hp : s.phase = Phase.idle
  · have hcp : s.consume.phase = Phase.idle := by rw [State.consume_phase, hp]
    cases hh : s.readHeld with
    | false =>
      rw [step_of_turn hturn (by simp [hh]), hp]
      exact ⟨_, exec_idle hcp⟩
    | true =>
      have hword : s.nextWord = some s.pollWord := by
        rcases hturn with ⟨hend, hquiet⟩ | ⟨rest, hnext⟩
        · exact State.nextWord_end hend hquiet
        · exact State.nextWord_turn hnext
      rw [step_of_decode hword (decode_pollWord_held hh hp)]
      exact h.consume.readWait_completes hcp
  · obtain ⟨t, ht, -⟩ := h.step_turn hturn hp
    exact ⟨t, ht⟩

/-- The first step of a round completes: its stimuli from outside are legal, and its HOST request comes only when the poll
context can take one (R250). -/
theorem Legal.step_round (h : Legal s) (hsched : s.sched = []) (he : s.env.endless = true) : ∃ t, step s = .next t := by
  obtain ⟨arrived, hout, hround⟩ := s.drawRound_sched
  rw [← s.refill_endless hsched he] at hround
  rw [← step_refill s]
  cases arrived with
  | cons x arrived =>
    obtain ⟨t, ht, -⟩ := h.refill.step_outside hround (hout x List.mem_cons_self)
    exact ⟨t, ht⟩
  | nil =>
    split at hround
    · next hidle =>
      obtain ⟨hp, hh, -⟩ := hidle
      exact h.refill.step_request hround (by rw [s.refill_phase, hp]) (.inr (by rw [s.refill_readHeld, hh]))
    · exact h.refill.step_turnNext (.inr ⟨[], hround⟩)

/-! ### Every step -/

/-- The step on an item of the trace is a refused request or completes. -/
theorem Legal.step_item (h : Legal s) (hsched : s.sched = x :: rest) : (∃ r, BadRequest r s) ∨ ∃ t, step s = .next t := by
  have outside (hx : fromOutside x = true) : ∃ t, step s = .next t := by
    obtain ⟨t, ht, -⟩ := h.step_outside hsched hx
    exact ⟨t, ht⟩
  cases x with
  | rx b => exact .inr (outside rfl)
  | rst arriving => exact .inr (outside rfl)
  | stWrite a d => exact .inr (outside rfl)
  | turn => exact .inr (h.step_turnNext (.inr ⟨rest, hsched⟩))
  | stRead wide a =>
    cases wide with
    | false => exact .inr (outside rfl)
    | true =>
      rcases Nat.mod_two_eq_zero_or_one a.toNat with heven | hodd
      · exact .inr (outside (by simp [fromOutside, heven]))
      · exact .inl ⟨_, .inr (.inr ⟨rfl, a, rest, hsched, hodd⟩)⟩
  | host op =>
    by_cases hp : s.phase = Phase.idle
    · by_cases hok : op = 0b010#3 ∨ s.readHeld = false
      · exact .inr (h.step_request hsched hp hok)
      · obtain ⟨hread, hh⟩ := not_or.1 hok
        exact .inl ⟨_, .inr (.inl ⟨rfl, hp, Bool.eq_true_of_not_eq_false hh, op, rest, hsched, hread⟩)⟩
    · exact .inl ⟨_, .inl ⟨rfl, hp, op, rest, hsched⟩⟩

/-- From a legal state a step is a refused request or completes. -/
theorem Legal.badRequest_or_completes (h : Legal s) : (∃ r, BadRequest r s) ∨ ∃ t, step s = .next t := by
  cases hsched : s.sched with
  | cons x rest => exact h.step_item hsched
  | nil =>
    cases he : s.env.endless with
    | false => exact .inr (h.step_turnNext (.inl ⟨hsched, he⟩))
    | true => exact .inr (h.step_round hsched he)

/-- Settles O10: a step is one of the three requests, which are refused, or completes; so it never faults, and a refusal is
that of a request. -/
theorem legalStatesNeverFaultAndRefuseOnlyBadRequests : Obligations.LegalStatesNeverFaultAndRefuseOnlyBadRequests := by
  intro s hs
  rcases hs.badRequest_or_completes with ⟨r, hbad⟩ | ⟨t, ht⟩
  · refine ⟨fun f hf => ?_, fun r' => ⟨fun hr => ?_, BadRequest.step⟩⟩
    · cases hf.symm.trans hbad.step
    · cases hr.symm.trans hbad.step
      exact hbad
  · refine ⟨fun f hf => ?_, fun r => ⟨fun hr => ?_, BadRequest.step⟩⟩
    · cases hf.symm.trans ht
    · cases hr.symm.trans ht

end Sys2Proof.Machine
end

section
/-! SUPPORT. RESET as an operation and as an item of the trace, and the bytes that arrive while it is asserted (R230,
R233). -/

namespace Sys2Proof.Machine

variable {s : State} {arriving : List Byte} {rest : List Stimulus}

/-- Settles O47: RESET is made of the named updates of the listed registers, and none of them writes another register. -/
theorem resetSetsTheListedRegisters : Obligations.ResetSetsTheListedRegisters := by
  intro s
  refine ⟨_, rfl, ?_⟩
  simp [SameSlots, SameFixed]

/-- The draws drop bytes and leave the order of the others (R203, R233). -/
theorem keptBytes_sublist (d : Nat) (bs : List Byte) : (keptBytes d bs).Sublist bs := by
  induction bs generalizing d with
  | nil => exact .slnil
  | cons b bs ih =>
    rw [keptBytes]
    split
    · exact (ih (d + 1)).cons_cons b
    · exact (ih (d + 1)).cons b

theorem State.nextWord_rst (h : s.sched = .rst arriving :: rest) : s.nextWord = some (.rst 1#1) := by
  simp only [State.nextWord, s.refill_cons h, h]

theorem State.consume_rst_sched (h : s.sched = .rst arriving :: rest) :
    s.consume.sched = (keptBytes s.draws arriving).map Stimulus.rx ++ rest := by
  simp only [State.consume, s.refill_cons h, h, State.setTrace_sched]

theorem step_eq_exec_reset (h : s.sched = .rst arriving :: rest) : step s = exec .reset s.consume :=
  step_of_decode (State.nextWord_rst h) rfl

/-- An empty ring holds no byte, wherever its index stands (R100). -/
theorem State.contents_of_head_eq_tail (h : s.head = s.tail) : s.contents = [] := by
  simp [State.contents, State.count, h]

/-- Settles O48: the step runs RESET with the kept bytes already on the trace, and RESET leaves the trace as it is. -/
theorem bytesDuringResetAreHeldOrLost : Obligations.BytesDuringResetAreHeldOrLost := by
  intro s arriving rest hsched
  obtain ⟨t, ht, hhead, htail, hready, -, -, -, -, hphase, -, -, -, -, -, -, -, htx, -, -, -, htrace, -⟩ :=
    resetSetsTheListedRegisters s.consume
  refine ⟨t, keptBytes s.draws arriving, (step_eq_exec_reset hsched).trans ht, keptBytes_sublist _ _, ?trace, hphase,
    State.contents_of_head_eq_tail (hhead.trans htail.symm), hready, htx.trans s.consume_tx⟩
  case trace => rw [htrace, State.consume_rst_sched hsched]

end Sys2Proof.Machine
end
